-- ==== Sys2Proof/Word.lean ====
section
/-!
DEFINITION. The part's plain number types. Host accesses are aligned 32-bit words (R156); record fields are bytes,
half-words and words (R174).
-/

namespace Sys2Proof

/-- The smallest addressable unit of exchange memory. -/
abbrev Byte := BitVec 8

/-- A two-byte field (a tag, an entry serial, a device value). -/
abbrev Half := BitVec 16

/-- A 32-bit word: the unit of every host access (R156). -/
abbrev Word := BitVec 32

/-- A byte holding a count or a code. -/
abbrev byteOf (n : Nat) : Byte := BitVec.ofNat 8 n

/-- A word holding a count, a time or a code; a count past 4,294,967,295 goes on from 0 (R165). -/
abbrev wordOf (n : Nat) : Word := BitVec.ofNat 32 n

end Sys2Proof
end

