-- ==== Sys2Proof/Config.lean ====
section
/-!
DEFINITION. What the manual fixes for every part (fixed times, table sizes, the constants of the window) and the
values the manual leaves open, which are opaque: nothing in Lean can evaluate them.
-/

namespace Sys2Proof.Config

/-- FREE VALUE (log entry 3). A LAMP answer's value carries a two-bit battery code of which 0, 1 and 2 are assigned (09_record_layouts,
'The device value is laid out by kind'). The manual does not say what code 3 means: whether a battery reporting it counts as SOUND
is a function of the answer's value that nothing constrains. -/
opaque unassignedBatteryIsSound : BitVec 16 → Bool

/-- FREE VALUE (log entry 49). A zone record shows its count of detectors in ALARM in one byte (09), and more than 255 detectors may name one zone. The
manual neither bounds the count nor says what the byte shows then. -/
opaque alarmCountBeyondByte : Nat → BitVec 8

/-- Lock sense timeout, fixed (R69). -/
def lockSenseTime : Nat := 3

/-- Release broadcast repeat, fixed (R36). -/
def broadcastRepeat : Nat := 1

/-- Length of a function test, fixed (R122, R123). -/
def functionTestTime : Nat := 60

/-- Recharge lockout, fixed: 24 h (R120). -/
def rechargeTime : Nat := 86400

/-- A battery period of more than this leads to recharge (R120). -/
def batteryPeriodLimit : Nat := 60

/-- Seconds of an hour, for the length of a duration test (R123). -/
def hour : Nat := 3600

/-- The call list has 32 entries (R85). -/
def callEntries : Nat := 32

/-- Answer positions of an open segment (R33). -/
def openPositions : Nat := 12

/-- Addresses of one loop (R30). -/
def loopAddresses : Nat := 96

/-- IDENT reads this constant at all times (R171). -/
def ident : Word := 0x54C20840#32

/-- The format mark of a plan bank (09_record_layouts, plan header). -/
def formatMark : Nat := 0x08400001

/-- Records of all live tables, one change summary bit each (R167). -/
def liveRecords : Nat := 853

/-- Window offset of order slot 0; slot n lies 64 n further on. -/
def slotBase : Nat := 0x0200

/-- Window offset of the live tables. -/
def liveBase : Nat := 0x0800

/-- Window offset of plan bank A. -/
def bankABase : Nat := 0x2800

/-- Window offset of plan bank B. -/
def bankBBase : Nat := 0x5000

/-- Size of one plan bank. -/
def bankSize : Nat := 0x2800

/-- Window offset of the first change summary word; 27 words follow one another. -/
def summaryBase : Nat := 0x0080

/-- Number of change summary words. -/
def summaryWords : Nat := 27

/-- Window offset of IDENT. -/
def identOffset : Nat := 0x7FE0

/-- Window offset of CONTROL. -/
def controlOffset : Nat := 0x7FE4

/-- Window offset of NOTICE. -/
def noticeOffset : Nat := 0x7FE8

/-- Window offset of NOTICE MASK. -/
def noticeMaskOffset : Nat := 0x7FEC

/-- Window offset of PRESENCE. -/
def presenceOffset : Nat := 0x7FF0

end Sys2Proof.Config
end

