-- ==== Sys2Proof/Syntax.lean ====
section
/-!
DEFINITION. The commands of the GS-840: one constructor of Instr per row of spec/opcode_table.json, with the operands the row's
rule gives it. The table gives no row any bits or operand fields, so the operands are read from the rules (log entry 1).
-/

namespace Sys2Proof

/-- The seven kinds a field module reports itself to be (02, 'Answers'); codes 1 to 7 in this order (09, 'The kinds are coded'). -/
inductive DeviceKind where
  | detector
  | breakglass
  | door
  | help
  | sign
  | lamp
  | sounder
deriving DecidableEq, Repr, Inhabited

/-- What one copy of an answer with a valid check code carries besides its address (02, 'Answers'). -/
structure AnswerContent where
  /-- The kind the module reports itself to be. -/
  kind : DeviceKind
  /-- Status: the internal fault bit. -/
  fault : Bool
  /-- Status: the echo of the output the module is carrying (09: device status bits 7 to 4). -/
  echo : BitVec 4
  /-- The value, laid out by kind (09). -/
  value : Half
deriving DecidableEq, Repr, Inhabited

/-- Where in a sweep an answer arrives (R32, R33). -/
inductive Segment where
  | rollCall
  | openSegment
deriving DecidableEq, Repr, Inhabited

/-- The width of a host access; every width but `word` is refused (R156). -/
inductive AccessSize where
  | byte
  | half
  | word
deriving DecidableEq, Repr, Inhabited

/-- The commands. The host's writes come first, then the order unit's take, then the orders as their owning units carry them out
(an order's arguments are those the order unit read at the take, R161, so these constructors carry none), then the events of the plan
store, the loops, the keys, the timers and the messages between units. -/
inductive Instr where
  /-- COLD_RESET (R172). -/
  | coldReset
  /-- IFACE_RESET (R173): a host write of CONTROL with IFACE_RESET 1; `lineEnable` is the bit 0 the same write gives. -/
  | ifaceReset (lineEnable : Bool)
  /-- LINE_ENABLE (R171): a host write of CONTROL with IFACE_RESET 0. -/
  | lineEnable (on : Bool)
  /-- NOTICE_CLEAR (R169): a host write of `value` to NOTICE. -/
  | noticeClear (value : Word)
  /-- NOTICE_MASK_WRITE (R170): a host write of `value` to NOTICE MASK. -/
  | noticeMaskWrite (value : Word)
  /-- PRESENCE_WRITE (R143): a host write of `value` to PRESENCE. -/
  | presenceWrite (value : Word)
  /-- CHANGE_SUMMARY_CLEAR (R167): a host write of `value` to change summary word `index`, 0 to 26. -/
  | changeSummaryClear (index : Nat) (value : Word)
  /-- COMMIT (R159): a host write of 1 to the handover word of slot `slot`. -/
  | commit (slot : Nat)
  /-- WITHDRAWAL (R159): a host write of 0 to the handover word of a COMMITTED slot. -/
  | withdrawal (slot : Nat)
  /-- GIVE_BACK (R159): a host write of 0 to the handover word of a DONE slot. -/
  | giveBack (slot : Nat)
  /-- HOST_WRITE (R157): a host write of `value` at byte offset `offset` of the 32 KiB window. -/
  | hostWrite (offset : BitVec 15) (size : AccessSize) (value : Word)
  /-- TAKE (R161). -/
  | take
  /-- CANCEL (R164). -/
  | cancel
  /-- ACKNOWLEDGE (R15). -/
  | acknowledge
  /-- SILENCE (R22). -/
  | silence
  /-- RESOUND (R23). -/
  | resound
  /-- EVACUATE (R20). -/
  | evacuate
  /-- RESET_SITE (R24). -/
  | resetSite
  /-- ISOLATE_ZONE (R9). -/
  | isolateZone
  /-- RESTORE_ZONE (R11). -/
  | restoreZone
  /-- TEST_ZONE (R10). -/
  | testZone
  /-- SET_REGIME (R133). -/
  | setRegime
  /-- START_LOOP (R37). -/
  | startLoop
  /-- STOP_LOOP (R39). -/
  | stopLoop
  /-- ISOLATE_DEVICE (R52). -/
  | isolateDevice
  /-- RESTORE_DEVICE (R53). -/
  | restoreDevice
  /-- PASS_DOOR (R76). -/
  | passDoor
  /-- HOLD_DOOR (R77). -/
  | holdDoor
  /-- RELEASE_HOLD (R77). -/
  | releaseHold
  /-- LOCKDOWN (R78). -/
  | lockdown
  /-- END_LOCKDOWN (R78). -/
  | endLockdown
  /-- CLEAR_PULL (R79). -/
  | clearPull
  /-- ISOLATE_DOOR (R80). -/
  | isolateDoor
  /-- RESTORE_DOOR (R81). -/
  | restoreDoor
  /-- ATTEND_CALL (R96). -/
  | attendCall
  /-- CLOSE_CALL (R97). -/
  | closeCall
  /-- SET_CALL_LEVEL (R99). -/
  | setCallLevel
  /-- BAR_ROUTE (R109). -/
  | barRoute
  /-- UNBAR_ROUTE (R110). -/
  | unbarRoute
  /-- TEST_LIGHTS (R122). -/
  | testLights
  /-- STOP_TEST (R128). -/
  | stopTest
  /-- COMMIT_PLAN (R147). -/
  | commitPlan
  /-- COPY_PLAN (R155). -/
  | copyPlan
  /-- VALIDATION_END (R148): the validation that CHECKING runs comes to its end. -/
  | validationEnd
  /-- SEQUENCE_CALM_REPORT (R151): PS takes ZA's report that the sequence has become CALM. -/
  | sequenceCalmReport
  /-- TEST_ENDED_REPORT (R151): PS takes RL's report that a lighting test has ended. -/
  | testEndedReport
  /-- ACTIVATION (R154). -/
  | activation
  /-- CALL_OUT (R30): a sweep of loop `loop` begins; `shortA` and `shortB` say what the line tests of the two end drivers find (R43). -/
  | callOut (loop : Nat) (shortA shortB : Bool)
  /-- ANSWER (R45): an answer of address `addr` of loop `loop`; `atA` and `atB` are the copies that reach end A and end B with a valid
  check code, `none` where no valid copy arrives. Position and copies have this one address (log entry 43). -/
  | answer (loop : Nat) (segment : Segment) (addr : Nat) (atA atB : Option AnswerContent)
  /-- SWEEP_END (R49): the sweep of loop `loop` ends. -/
  | sweepEnd (loop : Nat)
  /-- RELEASE_BROADCAST (R36): the controller of loop `loop` drives the broadcast; `shortA` and `shortB` say which lines are found shorted. -/
  | releaseBroadcast (loop : Nat) (shortA shortB : Bool)
  /-- KEY_INPUT_CHANGE (R73): the input of release key `key`, 1 to 4, changes. -/
  | keyInputChange (key : Nat) (operated : Bool)
  /-- KEY_FILTER_EXPIRY (R73): the input of release key `key` has been stable for 200 ms. -/
  | keyFilterExpiry (key : Nat)
  /-- T_ACK_EXPIRY (R16). -/
  | tAckExpiry
  /-- T_SEARCH_EXPIRY (R16). -/
  | tSearchExpiry
  /-- PHASE_TIMER_EXPIRY (R19). -/
  | phaseTimerExpiry (area : Nat)
  /-- CLOSING_TIMER_EXPIRY (R136). -/
  | closingTimerExpiry (area : Nat)
  /-- PRESENCE_TIMER_EXPIRY (R141). -/
  | presenceTimerExpiry
  /-- CALL_AGEING (R100): an ageing step of the call in entry `entry`, 0 to 31. -/
  | callAgeing (entry : Nat)
  /-- RETURN_HOLD_EXPIRY (R112). -/
  | returnHoldExpiry (zone : Nat)
  /-- PASS_EXPIRY (R62). -/
  | passExpiry (door : Nat)
  /-- DOOR_HOLD_TIMER_EXPIRY (R68). -/
  | doorHoldTimerExpiry (door : Nat)
  /-- LOCK_SENSE_TIMER_EXPIRY (R69). -/
  | lockSenseTimerExpiry (door : Nat)
  /-- CLOSE_TIMER_EXPIRY (R70). -/
  | closeTimerExpiry (door : Nat)
  /-- RECHARGE_EXPIRY (R120). -/
  | rechargeExpiry (circuit : Nat)
  /-- TEST_END_TIME (R126). -/
  | testEndTime
  /-- UPTIME_TICK (R165). -/
  | uptimeTick
  /-- ZONE_ALARM_MESSAGE (R113): RL and CU take ZA's next message, that a zone has entered or left ALARM. -/
  | zoneAlarmMessage
  /-- EFFECTIVE_PHASE_MESSAGE (R113): RL takes ZA's next message, of a change of a zone's effective phase. -/
  | effectivePhaseMessage
  /-- DOOR_CONDITION_MESSAGE (R113): RL and ZA take DU's next message, of a change of a door's condition. -/
  | doorConditionMessage
  /-- EVAC_CLAIM_REQUEST (R63): DU carries out RL's next request. -/
  | evacClaimRequest
deriving DecidableEq, Repr

end Sys2Proof
end

