-- ==== Sys2Proof/WellFormed.lean ====
section
/-!
DEFINITION. Which commands are well formed: every operand lies in the range the manual numbers its kind of thing with
(00_scope, 'Numbers used throughout').
-/

namespace Sys2Proof

/-- An order slot's number, 0 to 23. -/
def isSlot (n : Nat) : Bool := n < 24

/-- A loop's number, 0 to 3. -/
def isLoop (n : Nat) : Bool := n < 4

/-- A device's address on its loop, 1 to 96. -/
def isAddress (n : Nat) : Bool := 1 ≤ n && n ≤ 96

/-- A zone's number, 1 to 120. -/
def isZone (n : Nat) : Bool := 1 ≤ n && n ≤ 120

/-- An area's number, 0 to 23. -/
def isArea (n : Nat) : Bool := n < 24

/-- A door's number, 1 to 64. -/
def isDoor (n : Nat) : Bool := 1 ≤ n && n ≤ 64

/-- A lighting circuit's number, 1 to 32. -/
def isCircuit (n : Nat) : Bool := 1 ≤ n && n ≤ 32

/-- A release key's number, 1 to 4. -/
def isKey (n : Nat) : Bool := 1 ≤ n && n ≤ 4

/-- An entry of the call list, 0 to 31. -/
def isCallEntry (n : Nat) : Bool := n < 32

/-- A change summary word's index, 0 to 26. -/
def isSummaryWord (n : Nat) : Bool := n < 27

/-- A command is well formed when each of its numbers names something the part has. -/
def Instr.wellFormed (i : Instr) : Bool :=
  match i with
  | .changeSummaryClear index _ => isSummaryWord index
  | .commit slot => isSlot slot
  | .withdrawal slot => isSlot slot
  | .giveBack slot => isSlot slot
  | .callOut loop _ _ => isLoop loop
  | .answer loop _ addr _ _ => isLoop loop && isAddress addr
  | .sweepEnd loop => isLoop loop
  | .releaseBroadcast loop _ _ => isLoop loop
  | .keyInputChange key _ => isKey key
  | .keyFilterExpiry key => isKey key
  | .phaseTimerExpiry area => isArea area
  | .closingTimerExpiry area => isArea area
  | .callAgeing entry => isCallEntry entry
  | .returnHoldExpiry zone => isZone zone
  | .passExpiry door => isDoor door
  | .doorHoldTimerExpiry door => isDoor door
  | .lockSenseTimerExpiry door => isDoor door
  | .closeTimerExpiry door => isDoor door
  | .rechargeExpiry circuit => isCircuit circuit
  | .coldReset | .ifaceReset _ | .lineEnable _ | .noticeClear _ | .noticeMaskWrite _ | .presenceWrite _ | .hostWrite _ _ _
  | .take | .cancel | .acknowledge | .silence | .resound | .evacuate | .resetSite | .isolateZone | .restoreZone | .testZone
  | .setRegime | .startLoop | .stopLoop | .isolateDevice | .restoreDevice | .passDoor | .holdDoor | .releaseHold | .lockdown
  | .endLockdown | .clearPull | .isolateDoor | .restoreDoor | .attendCall | .closeCall | .setCallLevel | .barRoute
  | .unbarRoute | .testLights | .stopTest | .commitPlan | .copyPlan | .validationEnd | .sequenceCalmReport | .testEndedReport
  | .activation | .tAckExpiry | .tSearchExpiry | .presenceTimerExpiry | .testEndTime | .uptimeTick | .zoneAlarmMessage
  | .effectivePhaseMessage | .doorConditionMessage | .evacClaimRequest => true

end Sys2Proof
end

