-- ==== Sys2Proof/Decode.lean ====
section
/-!
DEFINITION. The opcode table gives no row any bits, so no word spells a command: the decoder refuses every word.
-/

namespace Sys2Proof

/-- The command a word spells by the table's bits: none, since no row of spec/opcode_table.json carries bits. -/
def decodeTableWord (_nbits _w : Nat) : Option Instr := none

end Sys2Proof
end

