-- ==== Sys2Proof/Machine/Table.lean ====
section
/-!
DEFINITION. Tables of a fixed number of numbered records: 'Table α lo n' holds the records numbered lo to lo + n - 1 (00_scope,
'Numbers used throughout'). The length is carried by the type, so no operation can lose a record.
-/

namespace Sys2Proof.Machine

/-- `n` records, numbered from `lo`. -/
structure Table (α : Type) (lo n : Nat) where
  rows : Vector α n
deriving DecidableEq, Repr, Inhabited

/-- The records as a list, in ascending number. -/
def Table.list {α : Type} {lo n : Nat} (t : Table α lo n) : List α := t.rows.toArray.toList

theorem Table.list_length {α : Type} {lo n : Nat} (t : Table α lo n) : t.list.length = n := by
  simp [Table.list]

/-- The table of a list of the right length. -/
def Table.ofList {α : Type} {lo n : Nat} (xs : List α) (h : xs.length = n) : Table α lo n := ⟨⟨⟨xs⟩, by simpa using h⟩⟩

/-- The table whose every record is `x`. -/
def Table.fill {α : Type} {lo n : Nat} (x : α) : Table α lo n := .ofList (List.replicate n x) (by simp)

/-- Record number `i`; the type's default record where no record carries that number. -/
def Table.get {α : Type} {lo n : Nat} [Inhabited α] (t : Table α lo n) (i : Nat) : α :=
  if i < lo then default else t.list.getD (i - lo) default

/-- Replaces record number `i`; nothing where no record carries that number. -/
def Table.set {α : Type} {lo n : Nat} (t : Table α lo n) (i : Nat) (x : α) : Table α lo n :=
  if i < lo then t else .ofList (t.list.set (i - lo) x) (by simp [t.list_length])

/-- Changes record number `i`. -/
def Table.modify {α : Type} {lo n : Nat} [Inhabited α] (t : Table α lo n) (i : Nat) (f : α → α) : Table α lo n :=
  t.set i (f (t.get i))

/-- Maps a list of records, counting their numbers from `k`. -/
def mapNumbered {α β : Type} (f : Nat → α → β) : Nat → List α → List β
  | _, [] => []
  | k, x :: xs => f k x :: mapNumbered f (k + 1) xs

theorem mapNumbered_length {α β : Type} (f : Nat → α → β) (k : Nat) (xs : List α) :
    (mapNumbered f k xs).length = xs.length := by
  induction xs generalizing k <;> simp [mapNumbered, *]

/-- Changes every record at once; `f` is given each record's number. -/
def Table.map {α β : Type} {lo n : Nat} (f : Nat → α → β) (t : Table α lo n) : Table β lo n :=
  .ofList (mapNumbered f lo t.list) (by simp [mapNumbered_length, t.list_length])

/-- The record numbers, ascending. -/
def Table.numbers {α : Type} {lo n : Nat} (_ : Table α lo n) : List Nat := List.range' lo n

end Sys2Proof.Machine
end

