-- ==== Sys2Proof/Machine/Memory.lean ====
section
/-!
DEFINITION. The two plan banks as addressed memory, keyed by window offset: a list of (offset, byte) cells in one canonical
form, offsets strictly rising and no cell holding 0, which is what an unlisted offset reads as (R172: cold reset zeroes all of exchange
memory).
-/

namespace Sys2Proof.Machine

/-- Sparse bytes of exchange memory. -/
abbrev Memory := List Host.Cell

/-- The byte at an offset; an unlisted offset reads 0 (R172). -/
def Memory.read : Memory → Nat → Byte
  | [], _ => 0
  | (a, v) :: m, k => if a = k then v else Memory.read m k

/-- Writes one byte, keeping the canonical form. -/
def Memory.write : Memory → Nat → Byte → Memory
  | [], k, v => if v = 0 then [] else [(k, v)]
  | (a, x) :: m, k, v =>
    if a < k then (a, x) :: Memory.write m k v
    else if a = k then (if v = 0 then m else (k, v) :: m)
    else if v = 0 then (a, x) :: m else (k, v) :: (a, x) :: m

/-- The canonical form: offsets strictly rising, no zero byte listed. -/
abbrev Memory.wf (m : Memory) : Prop := m.Pairwise (fun c d => c.1 < d.1) ∧ ∀ c ∈ m, c.2 ≠ 0

/-- Byte `i` of a word, byte 0 the least significant (R174: words are little-endian). -/
def byteOfWord (w : Word) (i : Nat) : Byte := w.extractLsb' (8 * i) 8

/-- Writes a word, least significant byte at the lowest offset (R174). -/
def Memory.writeWord (m : Memory) (k : Nat) (w : Word) : Memory :=
  (((m.write k (byteOfWord w 0)).write (k + 1) (byteOfWord w 1)).write (k + 2) (byteOfWord w 2)).write (k + 3) (byteOfWord w 3)

/-- Copies `len` bytes from offset `src` to offset `dst` (R155: every word of one bank over the other). -/
def Memory.copy (m : Memory) (src dst len : Nat) : Memory :=
  (m.filter (fun c => src ≤ c.1 && c.1 < src + len)).foldl (fun acc c => Memory.write acc (c.1 - src + dst) c.2)
    (m.filter (fun c => !(dst ≤ c.1 && c.1 < dst + len)))

end Sys2Proof.Machine
end

