-- ==== Sys2Proof/Machine/State.lean ====
section
/-!
DEFINITION. The state of the GS-840, block by block (00_scope, 'Blocks'), the reasons a step can stop, and the state after cold reset.
A time is held as whole seconds since the last cold reset (`xp.seconds`) and shown modulo 2^32 (R165; log entry 4). A timer is held as the
second at which it expires, or the second at which it started where its length may be replaced by an activation (R83).
-/

namespace Sys2Proof.Machine

/-- Why a step can stop. The manual names nothing that stops the part: a refused write is captured and dropped (R158) and a refused order
completes with a code (R161), so no command raises a fault and there is no constructor. Safe: nothing is cut short. -/
inductive Fault where
deriving DecidableEq, Repr

/-- Why a command has no meaning in the model. -/
inductive Refusal where
  /-- Raised by an arm of exec whose command the model gives no meaning yet; none is left. Safe: the model stops. -/
  | notModelled (mnemonic : String)
deriving DecidableEq, Repr

/-! ### Exchange port -/

/-- The state of the presence monitor (R139); codes 0, 1, 2. -/
inductive Attach where
  | unwatched
  | attached
  | detached
deriving DecidableEq, Repr, Inhabited

/-- The reason of a refused write (R158); codes 1 to 4. -/
inductive RefusedReason where
  | protectedWord
  | state
  | size
  | unassigned
deriving DecidableEq, Repr, Inhabited

/-- The refused-write capture (R158), empty while its count is 0. -/
structure Capture where
  reason : Option RefusedReason
  offset : BitVec 15
  value : Word
  count : Nat
deriving DecidableEq, Repr, Inhabited

/-- XP: registers, change counts and summaries, the capture, the presence monitor. -/
structure Xp where
  /-- Whole seconds since the last cold reset; the uptime count is this modulo 2^32 (R165). -/
  seconds : Nat
  /-- CONTROL.LINE_ENABLE (R171). -/
  lineEnable : Bool
  /-- NOTICE: 0 ORDER, 1 SITE, 2 DOOR, 3 CALL, 4 ROUTE, 5 LOOP, 6 PLAN, 7 WRITE (R169, 09). -/
  notice : Byte
  /-- NOTICE MASK (R170). -/
  mask : Byte
  attach : Attach
  /-- The second at which the presence timer expires, while it runs (R140). -/
  presenceEnd : Option Nat
  /-- Lapse count, 0 to 255 (R139, R143). -/
  lapse : Nat
  capture : Capture
  /-- Change count of each live record, numbered as its change summary bit (R166, 09). -/
  counts : Table Byte 0 853
  /-- Change counts of the site summary, the plan status and the capture (R165). -/
  siteCount : Byte
  planCount : Byte
  captureCount : Byte
  /-- The 27 change summary words (R167, 09). -/
  summary : Table Word 0 27
deriving DecidableEq, Repr

/-! ### Order unit -/

/-- A slot's handover state, codes 0 to 3 (08, 'Order slots'). -/
inductive Handover where
  | free
  | committed
  | taken
  | done
deriving DecidableEq, Repr, Inhabited

/-- Completion codes 0 to 12 (09). -/
inductive Completion where
  | none
  | ok
  | kept
  | malformed
  | noPlan
  | noSuch
  | refusedState
  | refusedSite
  | refusedCover
  | cancelled
  | aborted
  | failed
  | invalidPlan
deriving DecidableEq, Repr, Inhabited

/-- One order slot (08, 'Order slots'; 09). -/
structure Slot where
  handover : Handover
  code : Word
  urgent : Bool
  argCount : Byte
  tag : Half
  /-- Argument words 0 to 4. -/
  args : Table Word 0 5
  completion : Completion
  doneTag : Half
  /-- Result words 1 to 6. -/
  results : Table Word 1 6
deriving DecidableEq, Repr, Inhabited

/-- A regime (R132); an area record shows 1, 2, 3. -/
inductive Regime where
  | day
  | closing
  | night
deriving DecidableEq, Repr, Inhabited

/-- An order with the arguments the order unit read at the take (R161; codes in 09). -/
inductive Order where
  | cancel (slot : Nat)
  | acknowledge
  | silence
  | resound
  /-- `none` is the ALL code. -/
  | evacuate (area : Option Nat)
  | resetSite
  | isolateZone (zone : Nat)
  | restoreZone (zone : Nat)
  | testZone (zone : Nat)
  /-- `night` says that NIGHT is asked for, and DAY otherwise. -/
  | setRegime (area : Nat) (night : Bool)
  | startLoop (loop : Nat)
  | stopLoop (loop : Nat)
  | isolateDevice (loop addr : Nat)
  | restoreDevice (loop addr : Nat)
  | passDoor (door seconds : Nat)
  /-- `shut` says that the mode is SHUT, and OPEN otherwise. -/
  | holdDoor (door : Nat) (shut : Bool)
  | releaseHold (door : Nat)
  | lockdown (area : Nat)
  | endLockdown (area : Nat)
  | clearPull (door : Nat)
  | isolateDoor (door : Nat)
  | restoreDoor (door : Nat)
  | attendCall (serial : Nat)
  | closeCall (serial : Nat)
  | setCallLevel (source level : Nat)
  | barRoute (route : Nat)
  | unbarRoute (route : Nat)
  /-- `duration` says that the kind is DURATION, and FUNCTION otherwise. -/
  | testLights (duration : Bool) (circuits : Word) (hours : Nat)
  | stopTest
  /-- `deferred` says that the mode is DEFERRED, and IMMEDIATE otherwise. -/
  | commitPlan (deferred : Bool)
  | copyPlan
deriving DecidableEq, Repr, Inhabited

/-- The order OU is working on: its slot (none once an interface reset has freed it, R173), its arguments and its tag. -/
structure Working where
  slot : Option Nat
  order : Order
  tag : Half
deriving DecidableEq, Repr, Inhabited

/-- The owner of a held order (R163). -/
inductive HeldOwner where
  /-- A START LOOP of this loop. -/
  | loop (loop : Nat)
  /-- A TEST LIGHTS. -/
  | lights
  /-- A COMMIT PLAN. -/
  | plan
deriving DecidableEq, Repr, Inhabited

/-- One entry of the held-order list (R163). -/
structure HeldOrder where
  slot : Nat
  owner : HeldOwner
deriving DecidableEq, Repr, Inhabited

/-- OU: the slots, the commit queue, the order being worked on, the held-order list. -/
structure Ou where
  slots : Table Slot 0 24
  queue : List Nat
  working : Option Working
  held : List HeldOrder
deriving DecidableEq, Repr

/-! ### Plan store -/

/-- The two plan banks (R145). -/
inductive Bank where
  | a
  | b
deriving DecidableEq, Repr, Inhabited

/-- The state of the staged bank (R145); codes 1, 2, 3. -/
inductive StagedState where
  | edit
  | checking
  | waiting
deriving DecidableEq, Repr, Inhabited

/-- PS. -/
structure Ps where
  active : Option Bank
  staged : StagedState
  /-- Last validation result: check number 0 to 22 and record index (R145). -/
  lastCheck : Nat
  lastIndex : Nat
  /-- The mode of the commit in progress is DEFERRED (R147). -/
  deferred : Bool
  /-- Reports of ZA that the sequence became CALM, and of RL that a test ended, not yet taken (R151). -/
  calmReports : Nat
  testReports : Nat
deriving DecidableEq, Repr, Inhabited

/-! ### Loop controllers -/

/-- Device conditions, codes 0 to 6 (02, 'Device conditions'). -/
inductive DeviceCond where
  | none
  | waiting
  | ok
  | missing
  | wrongKind
  | fault
  | isolated
deriving DecidableEq, Repr, Inhabited

/-- What a loop controller holds for one address. -/
structure Device where
  cond : DeviceCond
  /-- EXTRA mark (R51). -/
  extra : Bool
  /-- The kind reported at an EXTRA address (R51). -/
  extraKind : Option DeviceKind
  /-- Status last taken: internal fault bit and output echo (R45). -/
  faultBit : Bool
  echo : BitVec 4
  /-- Value last taken (R45). -/
  value : Half
  /-- Miss count (R46). -/
  miss : Nat
  /-- Echo count 0 to 2 (R47). -/
  echoCount : Nat
  outputFault : Bool
  /-- Recovery count (R45). -/
  recovery : Nat
  /-- The output value sent in call-outs (R50). -/
  output : Option (BitVec 4)
  /-- The newest value handed; it differs from `output` only while the device is ISOLATED (R50). -/
  handed : Option (BitVec 4)
deriving DecidableEq, Repr, Inhabited

/-- Loop states, codes 0 to 5 (02, 'Loop states'). -/
inductive LoopState where
  | idle
  | rollcall
  | ring
  | split
  | severed
  | failed
deriving DecidableEq, Repr, Inhabited

/-- The classifications of a sweep other than none, best first (R40). -/
inductive Grade where
  | healthy
  | split
  | severed
  | dead
deriving DecidableEq, Repr, Inhabited

/-- A worsening or improving run: a count of sweeps and the classification that bounds it (R41). -/
structure Run where
  count : Nat
  bound : Grade
deriving DecidableEq, Repr, Inhabited

/-- The poll of one address in a sweep: what its entry carried, where its answer was heard, and whether it was taken (R31, R34). -/
structure Poll where
  addr : Nat
  sent : Option (BitVec 4)
  heardA : Bool
  heardB : Bool
  taken : Bool
deriving DecidableEq, Repr, Inhabited

/-- A sweep in progress (R30): census or regular, its polls in ascending address, and the open positions used (R33). -/
structure Sweep where
  census : Bool
  polls : List Poll
  openUsed : Nat
deriving DecidableEq, Repr, Inhabited

/-- What a loop controller holds for its loop. -/
structure Loop where
  state : LoopState
  /-- The sweep number shown (R30), and the number the next sweep will carry. -/
  number : Nat
  next : Nat
  /-- An end's driver is DOWN (R43). -/
  endADown : Bool
  endBDown : Bool
  /-- Census attempt number (R37, R38). -/
  attempt : Nat
  /-- Disagree count, 0 to 255 (R34). -/
  disagree : Nat
  /-- Extra count and first extra address (R51). -/
  extraCount : Nat
  firstExtra : Nat
  /-- Break location (R44). -/
  breakA : Nat
  breakB : Nat
  /-- Worsening and improving runs (R41). -/
  worse : Run
  better : Run
  /-- A planned device has been heard in a census sweep of this roll-call (R38). -/
  rollHeard : Bool
  sweep : Option Sweep
  /-- The second from which the next release broadcast is due, while DU asks for it (R36). -/
  broadcastAt : Option Nat
  /-- Which ends (A, B) drove the last release broadcast (R36). -/
  broadcastEnds : Option (Bool × Bool)
deriving DecidableEq, Repr, Inhabited

/-- LC 0 to 3. Devices are numbered by device index, loop * 96 + address (09). -/
structure Lc where
  loops : Table Loop 0 4
  devices : Table Device 1 384
deriving DecidableEq, Repr

/-! ### Zone and alarm unit -/

/-- Detector states, codes 1 to 3 (R2, R4). -/
inductive DetState where
  | normal
  | warn
  | alarm
deriving DecidableEq, Repr, Inhabited

/-- What ZA holds for a DETECTOR or BREAKGLASS device. -/
structure Detector where
  state : DetState
  latched : Bool
  testHit : Bool
  /-- Confirm counter (R2). -/
  confirm : Nat
deriving DecidableEq, Repr, Inhabited

/-- Zone conditions, codes 0 to 5 (01, 'Zones'). -/
inductive ZoneCond where
  | unplanned
  | quiet
  | warn
  | alarm
  | isolated
  | test
deriving DecidableEq, Repr, Inhabited

/-- Causes of a zone's alarm, codes 0 to 4 (R5, R6). -/
inductive Cause where
  | none
  | detector
  | coincident
  | manual
  | escalated
deriving DecidableEq, Repr, Inhabited

/-- Phases, codes 0 to 2 (R12). -/
inductive Phase where
  | none
  | alert
  | evacuate
deriving DecidableEq, Repr, Inhabited

/-- What ZA holds for a zone. -/
structure Zone where
  cond : ZoneCond
  cause : Cause
  /-- The count of its detectors in ALARM, kept while the zone is in ALARM (R6, R7). -/
  detCount : Nat
  /-- Alarm entry time (R6). -/
  entry : Nat
  /-- Test count, 0 to 255 (R10). -/
  testCount : Nat
  /-- Effective phase as last evaluated (R12). -/
  phase : Phase
deriving DecidableEq, Repr, Inhabited

/-- What ZA holds for an area. -/
structure Area where
  regime : Regime
  phase : Phase
  /-- The second at which its ALERT ends, while its phase timer runs (R13). -/
  phaseEnd : Option Nat
  /-- The second at which its closing timer expires, while it runs (R132). -/
  closingEnd : Option Nat
deriving DecidableEq, Repr, Inhabited

/-- The site sequence with its investigation sub-state (01, 'The site sequence'). -/
inductive SiteSeq where
  | calm
  | awaitAck
  | searching
  | general
deriving DecidableEq, Repr, Inhabited

/-- Door conditions, codes 0 to 10 (03, 'Door conditions'). -/
inductive DoorCond where
  | none
  | secure
  | free
  | opened
  | forced
  | held
  | jammedShut
  | jammedFree
  | failClose
  | unknown
  | isolated
deriving DecidableEq, Repr, Inhabited

/-- ZA. -/
structure Za where
  zones : Table Zone 1 120
  areas : Table Area 0 24
  /-- By device index. -/
  detectors : Table Detector 1 384
  seq : SiteSeq
  /-- The second at which the site timer (T_ack or T_search) expires, while it runs (R14, R15). -/
  siteEnd : Option Nat
  silenced : Bool
  keysHeld : Bool
  /-- The first-alarm list, oldest first (R26). -/
  first : List Nat
  /-- The condition of each PUBLIC and STAFF door as DU last told it (R135). -/
  doorCond : Table DoorCond 1 64
deriving DecidableEq, Repr

/-! ### Door unit -/

/-- A jammed mark, or the lock's disagreement with its command that leads to it (R69). -/
inductive Jam where
  | none
  /-- Command FREE, lock sense ENGAGED. -/
  | shut
  /-- Command LOCKED, position CLOSED, lock sense FREE. -/
  | free
deriving DecidableEq, Repr, Inhabited

/-- The position filter's candidate OPEN or CLOSED: its count and the note of R58. -/
structure Candidate where
  count : Nat
  wasSecure : Bool
deriving DecidableEq, Repr, Inhabited

/-- What DU holds for a door. -/
structure Door where
  /-- Put out of service by ISOLATE DOOR (R80). -/
  isolated : Bool
  /-- Due to settle (R60). -/
  settle : Bool
  /-- Marks of R65. -/
  forced : Bool
  failClose : Bool
  held : Bool
  jam : Jam
  /-- Accepted inputs (R58, R59). -/
  posOpen : Bool
  exitPressed : Bool
  lockEngaged : Bool
  pullOperated : Bool
  /-- Filter candidates (R58). -/
  posCand : Option Candidate
  exitCand : Option Nat
  /-- Claims (R61); BASELINE is held by every planned door. -/
  pull : Bool
  keys : Bool
  evac : Bool
  lockdown : Bool
  /-- The HOLD claim; `true` is mode LOCKED. -/
  hold : Option Bool
  /-- The PASS claim's expiry (R62). -/
  pass : Option Nat
  /-- Forced count, 0 to 255 (R67). -/
  forcedCount : Nat
  /-- The seconds at which the running timers of R68, R69 and R70 started. -/
  holdStart : Option Nat
  lockStart : Option (Jam × Nat)
  closeStart : Option Nat
  /-- The lock command (LOCKED) and holder output (ON) last handed (R56). -/
  cmdLocked : Bool
  holderOn : Bool
  /-- The condition as last decided (R65). -/
  cond : DoorCond
deriving DecidableEq, Repr, Inhabited

/-- DU. -/
structure Du where
  doors : Table Door 1 64
  /-- The key input pins; `true` is OPERATED (R73). -/
  keyInput : Table Bool 1 4
  keyAccepted : Table Bool 1 4
  /-- Whether the release key set is held, as last decided (R73). -/
  setHeld : Bool
  /-- DU asks for the release broadcast (R75). -/
  broadcast : Bool
deriving DecidableEq, Repr

/-! ### Call unit -/

/-- Reasons of calls, codes 1 to 8 (R85). -/
inductive Reason where
  | press
  | nightPress
  | forced
  | held
  | jammedShut
  | failClose
  | pull
  | leftOpen
deriving DecidableEq, Repr, Inhabited

/-- Call states, codes 1 to 3 (R85). -/
inductive CallState where
  | waiting
  | offered
  | attended
deriving DecidableEq, Repr, Inhabited

/-- A call of the list (R85). -/
structure Call where
  /-- The entry that holds it, 0 to 31. -/
  entry : Nat
  serial : Nat
  source : Nat
  zone : Nat
  level : Nat
  reason : Reason
  state : CallState
  admitted : Nat
  lastRaise : Nat
  repeats : Nat
  aged : Bool
  inAlarm : Bool
  stranded : Bool
deriving DecidableEq, Repr, Inhabited

/-- A source record (R84); `pending` is the waiting mark with its level and reason. -/
structure Source where
  base : Nat
  pending : Option (Nat × Reason)
deriving DecidableEq, Repr, Inhabited

/-- Help-point indicators, codes 0 to 3 (R103). -/
inductive Indicator where
  | off
  | steady
  | flash
  | fast
deriving DecidableEq, Repr, Inhabited

/-- What CU holds for a help point (R87, R103). -/
structure HelpPoint where
  button : Bool
  cancel : Bool
  settle : Bool
  indicator : Option Indicator
deriving DecidableEq, Repr, Inhabited

/-- CU. -/
structure Cu where
  /-- The calls of the list in the order of their admission (R86). -/
  calls : List Call
  /-- The serial counter (R86). -/
  serial : Nat
  sources : Table Source 1 144
  zoneAlarm : Table Bool 1 120
  zoneStranded : Table Bool 1 120
  helps : Table HelpPoint 1 80
deriving DecidableEq, Repr

/-! ### Route and lighting unit -/

/-- The blocking cause of a route (R107). -/
inductive BlockCause where
  | none
  | barred
  | zone (zone : Nat)
  | door (door : Nat)
deriving DecidableEq, Repr, Inhabited

/-- What RL holds for a route. -/
structure Route where
  bar : Bool
  usable : Bool
  cause : BlockCause
deriving DecidableEq, Repr, Inhabited

/-- A zone's selected route (R111). -/
inductive Selection where
  | none
  | route (route : Nat)
  | refuge
deriving DecidableEq, Repr, Inhabited

/-- What RL holds for a zone. -/
structure RouteZone where
  selection : Selection
  candidate : Option Nat
  /-- The second at which its hold timer expires, while it runs (R112). -/
  holdEnd : Option Nat
  stranded : Bool
  /-- As ZA last told: in ALARM, and the effective phase. -/
  alarm : Bool
  phase : Phase
deriving DecidableEq, Repr, Inhabited

/-- Sign indications, codes 0 to 7 (R116). -/
inductive Indication where
  | off
  | left
  | right
  | ahead
  | up
  | down
  | refuge
  | noEntry
deriving DecidableEq, Repr, Inhabited

/-- What RL holds for a sign. -/
structure Sign where
  indication : Indication
  flash : Bool
deriving DecidableEq, Repr, Inhabited

/-- Battery states of a LAMP report (R118); `unassigned` is code 3, to which the manual gives no meaning (log entry 3). -/
inductive Battery where
  | sound
  | lampFail
  | batteryFail
  | unassigned (value : Half)
deriving DecidableEq, Repr, Inhabited

/-- Circuit states, codes 0 to 7 (R119). -/
inductive CircuitState where
  | none
  | normal
  | onBattery
  | functionTest
  | durationTest
  | recharge
  | fault
  | unknown
deriving DecidableEq, Repr, Inhabited

/-- Last test results (R129). -/
inductive TestResult where
  | none
  | pass
  | aborted
  | fail (minute : Nat)
deriving DecidableEq, Repr, Inhabited

/-- What RL holds for a lighting circuit. -/
structure Circuit where
  state : CircuitState
  mainsAbsent : Bool
  battery : Battery
  reserve : Nat
  /-- Recharge end time, while a lockout is set (R120). -/
  recharge : Option Nat
  result : TestResult
  /-- The second at which the running battery period began (R120). -/
  period : Option Nat
deriving DecidableEq, Repr, Inhabited

/-- A held lighting test (R123). -/
structure LightTest where
  duration : Bool
  start : Nat
  ending : Nat
  /-- The circuits still in the test. -/
  circuits : List Nat
  passMask : Word
  failMask : Word
deriving DecidableEq, Repr, Inhabited

/-- RL. -/
structure Rl where
  routes : Table Route 1 48
  zones : Table RouteZone 1 120
  /-- The condition of each door as DU last told it (R108). -/
  doorCond : Table DoorCond 1 64
  /-- The doors RL has asked DU to claim, ascending (R115). -/
  claims : List Nat
  signs : Table Sign 1 64
  circuits : Table Circuit 1 32
  test : Option LightTest
deriving DecidableEq, Repr

/-! ### Messages on their way -/

/-- A message of ZA to RL and CU (R113). -/
inductive ZaMessage where
  /-- The zone has entered (`true`) or left ALARM. -/
  | alarm (zone : Nat) (entered : Bool)
  /-- The zone's effective phase has become `phase`. -/
  | phase (zone : Nat) (phase : Phase)
deriving DecidableEq, Repr, Inhabited

/-- Messages sent and not yet taken, each list oldest first. -/
structure Mail where
  zaOut : List ZaMessage
  /-- DU to RL and ZA: a door and its new condition (R56). -/
  duOut : List (Nat × DoorCond)
  /-- RL to DU: a door, and whether its EVAC claim is to be added or dropped (R115). -/
  rlOut : List (Nat × Bool)
deriving DecidableEq, Repr, Inhabited

/-- The state of the part, with the commands waiting for it. -/
structure State where
  xp : Xp
  ou : Ou
  ps : Ps
  lc : Lc
  za : Za
  du : Du
  cu : Cu
  rl : Rl
  mail : Mail
  /-- The plan banks (R145), keyed by window offset. -/
  mem : Memory
  /-- Commands waiting, first in, first out. -/
  pending : List Instr
deriving DecidableEq, Repr

/-! ### Cold reset -/

/-- A zeroed slot is FREE (R172). -/
def Slot.zero : Slot :=
  { handover := .free, code := 0, urgent := false, argCount := 0, tag := 0, args := .fill 0, completion := .none, doneTag := 0,
    results := .fill 0 }

/-- An empty capture (R158). -/
def Capture.empty : Capture := { reason := none, offset := 0, value := 0, count := 0 }

/-- A run cleared (R41). -/
def Run.clear : Run := { count := 0, bound := .healthy }

/-- R54, one address. -/
def Device.zero : Device :=
  { cond := .none, extra := false, extraKind := none, faultBit := false, echo := 0, value := 0, miss := 0, echoCount := 0,
    outputFault := false, recovery := 0, output := none, handed := none }

/-- R54, one loop. -/
def Loop.zero : Loop :=
  { state := .idle, number := 0, next := 0, endADown := false, endBDown := false, attempt := 0, disagree := 0, extraCount := 0,
    firstExtra := 0, breakA := 0, breakB := 0, worse := .clear, better := .clear, rollHeard := false, sweep := none,
    broadcastAt := none, broadcastEnds := none }

/-- R28, one detector or break-glass contact. -/
def Detector.zero : Detector := { state := .normal, latched := false, testHit := false, confirm := 0 }

/-- R28, one zone. -/
def Zone.zero : Zone := { cond := .unplanned, cause := .none, detCount := 0, entry := 0, testCount := 0, phase := .none }

/-- R28, R132, one area. -/
def Area.zero : Area := { regime := .day, phase := .none, phaseEnd := none, closingEnd := none }

/-- R82, one door. -/
def Door.zero : Door :=
  { isolated := false, settle := false, forced := false, failClose := false, held := false, jam := .none, posOpen := false,
    exitPressed := false, lockEngaged := false, pullOperated := false, posCand := none, exitCand := none, pull := false,
    keys := false, evac := false, lockdown := false, hold := none, pass := none, forcedCount := 0, holdStart := none,
    lockStart := none, closeStart := none, cmdLocked := false, holderOn := false, cond := .none }

/-- R105, one source. -/
def Source.zero : Source := { base := 0, pending := none }

/-- R105, one help point: both controls RELEASED, due to settle, no indicator handed. -/
def HelpPoint.zero : HelpPoint := { button := false, cancel := false, settle := true, indicator := none }

/-- R130, one route. -/
def Route.zero : Route := { bar := false, usable := false, cause := .none }

/-- R130, one zone. -/
def RouteZone.zero : RouteZone :=
  { selection := .none, candidate := none, holdEnd := none, stranded := false, alarm := false, phase := .none }

/-- One sign before a plan (R130). -/
def Sign.zero : Sign := { indication := .off, flash := false }

/-- R130, one circuit: NONE, mains PRESENT, battery SOUND, no period, no lockout, no result. -/
def Circuit.zero : Circuit :=
  { state := .none, mainsAbsent := false, battery := .sound, reserve := 0, recharge := none, result := .none, period := none }

/-- XP after cold reset (R139, R172). -/
def Xp.reset : Xp :=
  { seconds := 0, lineEnable := false, notice := 0, mask := 0, attach := .unwatched, presenceEnd := none, lapse := 0,
    capture := .empty, counts := .fill 0, siteCount := 0, planCount := 0, captureCount := 0, summary := .fill 0 }

/-- OU after cold reset (R172). -/
def Ou.reset : Ou := { slots := .fill .zero, queue := [], working := none, held := [] }

/-- PS after cold reset (R145). -/
def Ps.reset : Ps :=
  { active := none, staged := .edit, lastCheck := 0, lastIndex := 0, deferred := false, calmReports := 0, testReports := 0 }

/-- The loop controllers after cold reset (R54). -/
def Lc.reset : Lc := { loops := .fill .zero, devices := .fill .zero }

/-- ZA after cold reset (R28, R132). -/
def Za.reset : Za :=
  { zones := .fill .zero, areas := .fill .zero, detectors := .fill .zero, seq := .calm, siteEnd := none, silenced := false,
    keysHeld := false, first := [], doorCond := .fill .none }

/-- DU after cold reset (R82); the key pins RELEASED (log entry 26). -/
def Du.reset : Du :=
  { doors := .fill .zero, keyInput := .fill false, keyAccepted := .fill false, setHeld := false, broadcast := false }

/-- CU after cold reset (R105). -/
def Cu.reset : Cu :=
  { calls := [], serial := 0, sources := .fill .zero, zoneAlarm := .fill false, zoneStranded := .fill false, helps := .fill .zero }

/-- RL after cold reset (R130). -/
def Rl.reset : Rl :=
  { routes := .fill .zero, zones := .fill .zero, doorCond := .fill .none, claims := [], signs := .fill .zero,
    circuits := .fill .zero, test := none }

/-- No message on its way. -/
def Mail.empty : Mail := { zaOut := [], duOut := [], rlOut := [] }

/-- The part right after cold reset (R28, R54, R82, R105, R130, R139, R145, R172), with no command waiting. -/
def State.reset : State :=
  { xp := .reset, ou := .reset, ps := .reset, lc := .reset, za := .reset, du := .reset, cu := .reset, rl := .reset,
    mail := .empty, mem := [], pending := [] }

end Sys2Proof.Machine
end

