-- ==== Sys2Proof/Machine/Plan.lean ====
section
/-!
DEFINITION. Reading a plan bank: the header, the site parameters and every plan record, byte for byte as 09_record_layouts lays them out
(R174). The units read the active bank at the moment each value is used (R146), so nothing here is copied into State.
-/

namespace Sys2Proof.Machine

/-- A bank to be read: exchange memory and the bank's window offset. -/
structure PlanBank where
  mem : Memory
  base : Nat

/-- Window offset of a bank (09). -/
def Bank.base : Bank → Nat
  | .a => Config.bankABase
  | .b => Config.bankBBase

/-- The other bank. -/
def Bank.other : Bank → Bank
  | .a => .b
  | .b => .a

/-- The staged bank: the bank that is not active, or bank A while none is (R145). -/
def Ps.stagedBank (ps : Ps) : Bank :=
  match ps.active with
  | none => .a
  | some b => b.other

/-- A bank of the part. -/
def State.bank (s : State) (b : Bank) : PlanBank := { mem := s.mem, base := b.base }

/-- The plan the part works to: the active bank, or an empty plan while none is active. -/
def State.plan (s : State) : PlanBank :=
  match s.ps.active with
  | none => { mem := [], base := 0 }
  | some b => s.bank b

namespace PlanBank

/-- Byte at a bank offset. -/
def byte (p : PlanBank) (o : Nat) : Nat := (Memory.read p.mem (p.base + o)).toNat

/-- Two-byte field at a bank offset, little-endian (R174). -/
def half (p : PlanBank) (o : Nat) : Nat := p.byte o + 256 * p.byte (o + 1)

/-- Word at a bank offset, little-endian (R174). -/
def word (p : PlanBank) (o : Nat) : Nat := p.half o + 65536 * p.half (o + 2)

/-- Bits hi to lo of a word. -/
def bits (w hi lo : Nat) : Nat := w / 2 ^ lo % 2 ^ (hi + 1 - lo)

/-- Bit i of a number. -/
def bit (w i : Nat) : Bool := w / 2 ^ i % 2 = 1

/-! ### Header and site parameters -/

/-- The format mark. -/
def formatMark (p : PlanBank) : Nat := p.word 0

/-- The plan identity (R154). -/
def identity (p : PlanBank) : Nat := p.word 4

/-- Site parameter n, 1 to 19. -/
def param (p : PlanBank) (n : Nat) : Nat := p.word (0x40 + 4 * (n - 1))

/-- Acknowledge window. -/
def tAck (p : PlanBank) : Nat := p.param 1

/-- Search window. -/
def tSearch (p : PlanBank) : Nat := p.param 2

/-- Presence timeout. -/
def presenceTimeout (p : PlanBank) : Nat := p.param 3

/-- Call age time. -/
def ageTime (p : PlanBank) : Nat := p.param 4

/-- Route return hold. -/
def returnHold (p : PlanBank) : Nat := p.param 5

/-- The call mode is NESTED, and QUEUED otherwise (09: 1 NESTED, 2 QUEUED). -/
def nested (p : PlanBank) : Bool := p.param 6 = 1

/-- The release key set holds key k. -/
def keyInSet (p : PlanBank) (k : Nat) : Bool := bit (p.param 7) (k - 1)

/-- Miss limit of a loop. -/
def missLimit (p : PlanBank) (l : Nat) : Nat := p.param (8 + 3 * l)

/-- Restore count of a loop; 0 is taken as 4 (R41). -/
def restoreCount (p : PlanBank) (l : Nat) : Nat := if p.param (9 + 3 * l) = 0 then 4 else p.param (9 + 3 * l)

/-- Roll-call attempts of a loop. -/
def rollCallAttempts (p : PlanBank) (l : Nat) : Nat := p.param (10 + 3 * l)

/-! ### Areas -/

/-- First word of an area record. -/
def areaWord0 (p : PlanBank) (a : Nat) : Nat := p.word (0x2C0 + 8 * a)

/-- Second word of an area record. -/
def areaWord1 (p : PlanBank) (a : Nat) : Nat := p.word (0x2C0 + 8 * a + 4)

/-- First zone. -/
def areaFirst (p : PlanBank) (a : Nat) : Nat := bits (p.areaWord0 a) 6 0

/-- Last zone. -/
def areaLast (p : PlanBank) (a : Nat) : Nat := bits (p.areaWord0 a) 13 7

/-- Parent area. -/
def areaParent (p : PlanBank) (a : Nat) : Nat := bits (p.areaWord0 a) 18 14

/-- Phase interval. -/
def phaseInterval (p : PlanBank) (a : Nat) : Nat := bits (p.areaWord0 a) 28 19

/-- Neighbour areas in the order listed: four 5-bit fields, 0 for absent, v for area v - 1. -/
def neighbours (p : PlanBank) (a : Nat) : List Nat :=
  (([bits (p.areaWord1 a) 4 0, bits (p.areaWord1 a) 9 5, bits (p.areaWord1 a) 14 10, bits (p.areaWord1 a) 19 15]).filter
    (fun v => v ≠ 0)).map (fun v => v - 1)

/-- Closing timeout. -/
def closingTimeout (p : PlanBank) (a : Nat) : Nat := bits (p.areaWord1 a) 30 20

/-- An area is planned when it is not empty: its first zone is neither 0 nor past its last (09). -/
def areaPlanned (p : PlanBank) (a : Nat) : Bool := a < 24 && p.areaFirst a ≠ 0 && p.areaFirst a ≤ p.areaLast a

/-- Zone z lies in planned area a (00, 'Terms': Area). -/
def inArea (p : PlanBank) (a z : Nat) : Bool :=
  a < 24 && p.areaFirst a ≠ 0 && p.areaFirst a ≤ z && z ≤ p.areaLast a

/-- The area numbers, ascending. -/
def areaNumbers : List Nat := List.range 24

/-- Planned area c is a child of area a. -/
def isChild (p : PlanBank) (a c : Nat) : Bool := c ≠ 0 && p.areaPlanned c && p.areaParent c = a

/-- The innermost area of a zone: the one containing it that has no child containing it (R12). -/
def innermost (p : PlanBank) (z : Nat) : Option Nat :=
  areaNumbers.find? (fun a => p.inArea a z && !(areaNumbers.any (fun c => p.inArea c z && p.isChild a c)))

/-- The chain of parents of an area, itself first, at most `fuel` long and ending at area 0. -/
def ancestry (p : PlanBank) : Nat → Nat → List Nat
  | 0, _ => []
  | fuel + 1, a => a :: (if a = 0 then [] else p.ancestry fuel (p.areaParent a))

/-- Area b is area a or one of its descendants: its chain of parents reaches a (R133). -/
def isWithin (p : PlanBank) (a b : Nat) : Bool := (p.ancestry 24 b).contains a

/-! ### Zones -/

/-- Offset of a zone record. -/
def zoneAt (z : Nat) : Nat := 0x380 + 16 * (z - 1)

/-- The zone is planned. -/
def zonePlanned (p : PlanBank) (z : Nat) : Bool := isZone z && bit (p.byte (zoneAt z)) 0

/-- Investigation allowed. -/
def investigationAllowed (p : PlanBank) (z : Nat) : Bool := bit (p.byte (zoneAt z)) 1

/-- Day coincidence flag. -/
def dayCoincidence (p : PlanBank) (z : Nat) : Bool := bit (p.byte (zoneAt z)) 2

/-- Night coincidence flag. -/
def nightCoincidence (p : PlanBank) (z : Nat) : Bool := bit (p.byte (zoneAt z)) 3

/-- The exit preference list: up to four routes, ended by 0. -/
def preferences (p : PlanBank) (z : Nat) : List Nat :=
  ([4, 5, 6, 7].map (fun o => p.byte (zoneAt z + o))).takeWhile (fun r => r ≠ 0)

/-! ### Devices, by device index -/

/-- Device index of an address (09). -/
def deviceIndex (loop addr : Nat) : Nat := loop * 96 + addr

/-- The loop of a device index. -/
def loopOf (i : Nat) : Nat := (i - 1) / 96

/-- The address of a device index. -/
def addressOf (i : Nat) : Nat := (i - 1) % 96 + 1

/-- Offset of a device record. -/
def deviceAt (i : Nat) : Nat := 0xB00 + 8 * (i - 1)

/-- A device index lies in 1 to 384. -/
def isDevice (i : Nat) : Bool := 1 ≤ i && i ≤ 384

/-- The kind byte, 0 for not planned. -/
def deviceCode (p : PlanBank) (i : Nat) : Nat := if isDevice i then p.byte (deviceAt i) else 0

/-- The device is marked planned. -/
def devicePlanned (p : PlanBank) (i : Nat) : Bool := p.deviceCode i ≠ 0

/-- The kinds by their codes (09). -/
def kindOfCode : Nat → Option DeviceKind
  | 1 => some .detector
  | 2 => some .breakglass
  | 3 => some .door
  | 4 => some .help
  | 5 => some .sign
  | 6 => some .lamp
  | 7 => some .sounder
  | _ => none

/-- The planned kind of a device. -/
def deviceKind (p : PlanBank) (i : Nat) : Option DeviceKind := kindOfCode (p.deviceCode i)

/-- The zone of a device. -/
def deviceZone (p : PlanBank) (i : Nat) : Nat := p.byte (deviceAt i + 1)

/-- Poll filter mask. -/
def filterMask (p : PlanBank) (i : Nat) : Nat := p.byte (deviceAt i + 2) % 16

/-- Poll filter value. -/
def filterValue (p : PlanBank) (i : Nat) : Nat := p.byte (deviceAt i + 2) / 16

/-- Confirm count. -/
def confirmCount (p : PlanBank) (i : Nat) : Nat := p.byte (deviceAt i + 3)

/-- Warn threshold. -/
def warnThreshold (p : PlanBank) (i : Nat) : Nat := p.byte (deviceAt i + 4)

/-- Day alarm threshold. -/
def dayThreshold (p : PlanBank) (i : Nat) : Nat := p.byte (deviceAt i + 5)

/-- Night alarm threshold. -/
def nightThreshold (p : PlanBank) (i : Nat) : Nat := p.byte (deviceAt i + 6)

/-- The device indexes, ascending. -/
def deviceNumbers : List Nat := List.range' 1 384

/-- The addresses of a loop, ascending. -/
def addresses : List Nat := List.range' 1 96

/-- The device indexes of one loop, ascending. -/
def loopDevices (l : Nat) : List Nat := addresses.map (deviceIndex l)

/-- A loop is planned when the plan names at least one device on it. -/
def loopPlanned (p : PlanBank) (l : Nat) : Bool := isLoop l && (loopDevices l).any p.devicePlanned

/-- A planned device is due in a sweep of number n: n ANDed with the mask equals the value (R30). -/
def due (p : PlanBank) (i n : Nat) : Bool := p.devicePlanned i && n &&& p.filterMask i = p.filterValue i

/-- The loop order list: addresses from end A to end B, ended at the first 0. -/
def orderList (p : PlanBank) (l : Nat) : List Nat :=
  ((List.range 96).map (fun k => p.byte (0x1700 + 96 * l + k))).takeWhile (fun a => a ≠ 0)

/-! ### Doors -/

/-- Kinds of doors (09: 1 PUBLIC, 2 STAFF, 3 STRONG, 4 FIRE). -/
inductive DoorKind where
  | publicDoor
  | staff
  | strong
  | fire
deriving DecidableEq, Repr, Inhabited

/-- Offset of a door record. -/
def doorAt (d : Nat) : Nat := 0x1880 + 16 * (d - 1)

/-- The kind byte, 0 for not planned. -/
def doorCode (p : PlanBank) (d : Nat) : Nat := if isDoor d then p.byte (doorAt d) else 0

/-- The kinds by their codes. -/
def doorKindOfCode : Nat → Option DoorKind
  | 1 => some .publicDoor
  | 2 => some .staff
  | 3 => some .strong
  | 4 => some .fire
  | _ => none

/-- The kind of a planned door. -/
def doorKind (p : PlanBank) (d : Nat) : Option DoorKind := doorKindOfCode (p.doorCode d)

/-- The door is planned. -/
def doorPlanned (p : PlanBank) (d : Nat) : Bool := (p.doorKind d).isSome

/-- A PUBLIC or STAFF door. -/
def publicOrStaff (p : PlanBank) (d : Nat) : Bool := p.doorKind d = some .publicDoor || p.doorKind d = some .staff

/-- Zone of a door. -/
def doorZone (p : PlanBank) (d : Nat) : Nat := p.byte (doorAt d + 1)

/-- A loop and an address as a device index, 0 where they name no device. -/
def namedDevice (loop addr : Nat) : Nat := if isLoop loop && isAddress addr then deviceIndex loop addr else 0

/-- Device of a door. -/
def doorDevice (p : PlanBank) (d : Nat) : Nat := namedDevice (p.byte (doorAt d + 2)) (p.byte (doorAt d + 3))

/-- Pass time. -/
def passTime (p : PlanBank) (d : Nat) : Nat := p.byte (doorAt d + 4)

/-- Hold limit. -/
def holdLimit (p : PlanBank) (d : Nat) : Nat := p.half (doorAt d + 6)

/-- Input check count. -/
def checkCount (p : PlanBank) (d : Nat) : Nat := p.byte (doorAt d + 8)

/-- Report forced by day. -/
def forcedByDay (p : PlanBank) (d : Nat) : Bool := bit (p.byte (doorAt d + 9)) 0

/-- Holder flag. -/
def holderFlag (p : PlanBank) (d : Nat) : Bool := bit (p.byte (doorAt d + 9)) 1

/-- Day level. -/
def dayLevel (p : PlanBank) (d : Nat) : Nat := p.byte (doorAt d + 10)

/-- Base call level of the door's source. -/
def doorBaseLevel (p : PlanBank) (d : Nat) : Nat := p.byte (doorAt d + 11)

/-- Fire door close time. -/
def closeTime (p : PlanBank) (d : Nat) : Nat := p.byte (doorAt d + 12)

/-- The door numbers, ascending. -/
def doorNumbers : List Nat := List.range' 1 64

/-- The planned door that names a device. -/
def doorOfDevice (p : PlanBank) (i : Nat) : Option Nat := doorNumbers.find? (fun d => p.doorPlanned d && p.doorDevice d = i)

/-! ### Help points and call sources -/

/-- Offset of a help record. -/
def helpAt (h : Nat) : Nat := 0x1C80 + 8 * (h - 1)

/-- A help point's number, 1 to 80. -/
def isHelp (h : Nat) : Bool := 1 ≤ h && h ≤ 80

/-- The help point is planned. -/
def helpPlanned (p : PlanBank) (h : Nat) : Bool := isHelp h && bit (p.byte (helpAt h)) 0

/-- Zone of a help point. -/
def helpZone (p : PlanBank) (h : Nat) : Nat := p.byte (helpAt h + 1)

/-- Device of a help point. -/
def helpDevice (p : PlanBank) (h : Nat) : Nat := namedDevice (p.byte (helpAt h + 2)) (p.byte (helpAt h + 3))

/-- Base call level of a help point. -/
def helpBaseLevel (p : PlanBank) (h : Nat) : Nat := p.byte (helpAt h + 4)

/-- The help point numbers, ascending. -/
def helpNumbers : List Nat := List.range' 1 80

/-- The planned help point that names a device. -/
def helpOfDevice (p : PlanBank) (i : Nat) : Option Nat := helpNumbers.find? (fun h => p.helpPlanned h && p.helpDevice h = i)

/-- Source n is help point n up to 80, and door n - 80 from 81 to 144. -/
def sourcePlanned (p : PlanBank) (n : Nat) : Bool := if n ≤ 80 then p.helpPlanned n else p.doorPlanned (n - 80)

/-- The zone of a source is the zone of its help point or door. -/
def sourceZone (p : PlanBank) (n : Nat) : Nat := if n ≤ 80 then p.helpZone n else p.doorZone (n - 80)

/-- Base level of a source in the plan. -/
def sourceBaseLevel (p : PlanBank) (n : Nat) : Nat := if n ≤ 80 then p.helpBaseLevel n else p.doorBaseLevel (n - 80)

/-- The source numbers, ascending. -/
def sourceNumbers : List Nat := List.range' 1 144

/-! ### Routes -/

/-- Offset of a route record. -/
def routeAt (r : Nat) : Nat := 0x1F00 + 16 * (r - 1)

/-- A route's number, 1 to 48. -/
def isRoute (r : Nat) : Bool := 1 ≤ r && r ≤ 48

/-- The route is planned. -/
def routePlanned (p : PlanBank) (r : Nat) : Bool := isRoute r && bit (p.byte (routeAt r)) 0

/-- Exit door. -/
def exitDoor (p : PlanBank) (r : Nat) : Nat := p.byte (routeAt r + 1)

/-- Via doors in the order listed; 0 marks an absent door. -/
def viaDoors (p : PlanBank) (r : Nat) : List Nat :=
  ([2, 3, 4, 5].map (fun o => p.byte (routeAt r + o))).filter (fun d => d ≠ 0)

/-- Traversed zones in the order listed; 0 marks an absent zone. -/
def traversed (p : PlanBank) (r : Nat) : List Nat :=
  ([6, 7, 8, 9, 10, 11].map (fun o => p.byte (routeAt r + o))).filter (fun z => z ≠ 0)

/-- The doors of a route: the exit door, then the via doors (R108). -/
def routeDoors (p : PlanBank) (r : Nat) : List Nat := p.exitDoor r :: p.viaDoors r

/-- The route numbers, ascending. -/
def routeNumbers : List Nat := List.range' 1 48

/-! ### Signs -/

/-- Offset of a sign record. -/
def signAt (g : Nat) : Nat := 0x2200 + 16 * (g - 1)

/-- The sign is planned. -/
def signPlanned (p : PlanBank) (g : Nat) : Bool := (1 ≤ g && g ≤ 64) && bit (p.byte (signAt g)) 0

/-- Device of a sign. -/
def signDevice (p : PlanBank) (g : Nat) : Nat := namedDevice (p.byte (signAt g + 1)) (p.byte (signAt g + 2))

/-- Guided zone. -/
def guidedZone (p : PlanBank) (g : Nat) : Nat := p.byte (signAt g + 3)

/-- Guarded zone, 0 for absent. -/
def guardedZone (p : PlanBank) (g : Nat) : Nat := p.byte (signAt g + 4)

/-- The direction map: pairs of a route and a direction code; a pair with route 0 is absent. -/
def directionMap (p : PlanBank) (g : Nat) : List (Nat × Nat) :=
  ([8, 10, 12, 14].map (fun o => (p.byte (signAt g + o), p.byte (signAt g + o + 1)))).filter (fun q => q.1 ≠ 0)

/-- The direction codes (09). -/
def directionOfCode : Nat → Option Indication
  | 1 => some .left
  | 2 => some .right
  | 3 => some .ahead
  | 4 => some .up
  | 5 => some .down
  | _ => none

/-- The direction the map gives for a route. That the first of two pairs that name the route holds is the model's choice (log entry 50). -/
def direction (p : PlanBank) (g r : Nat) : Option Indication :=
  ((p.directionMap g).find? (fun q => q.1 = r)).bind (fun q => directionOfCode q.2)

/-- The sign numbers, ascending. -/
def signNumbers : List Nat := List.range' 1 64

/-! ### Lighting circuits -/

/-- Offset of a lamp record. -/
def lampAt (c : Nat) : Nat := 0x2600 + 16 * (c - 1)

/-- The circuit is planned. -/
def lampPlanned (p : PlanBank) (c : Nat) : Bool := isCircuit c && bit (p.byte (lampAt c)) 0

/-- Maintained flag. -/
def maintained (p : PlanBank) (c : Nat) : Bool := bit (p.byte (lampAt c)) 1

/-- Device of a circuit. -/
def lampDevice (p : PlanBank) (c : Nat) : Nat := namedDevice (p.byte (lampAt c + 1)) (p.byte (lampAt c + 2))

/-- Zones a circuit serves; 0 marks an absent zone. -/
def servedZones (p : PlanBank) (c : Nat) : List Nat :=
  ([4, 5, 6, 7].map (fun o => p.byte (lampAt c + o))).filter (fun z => z ≠ 0)

/-- The circuit numbers, ascending. -/
def circuitNumbers : List Nat := List.range' 1 32

/-- The planned circuit that names a device. -/
def lampOfDevice (p : PlanBank) (i : Nat) : Option Nat := circuitNumbers.find? (fun c => p.lampPlanned c && p.lampDevice c = i)

/-- The zone numbers, ascending. -/
def zoneNumbers : List Nat := List.range' 1 120

/-- The planned zone numbers, ascending. -/
def plannedZones (p : PlanBank) : List Nat := zoneNumbers.filter p.zonePlanned

end PlanBank

end Sys2Proof.Machine
end

