-- ==== Sys2Proof/Machine/Ops.lean ====
section
/-!
DEFINITION. Named operations over the state that several units share: changing one block, reading a zone's regime, marks and tallies, timers,
handing an output to a loop controller, and completing a slot.
-/

namespace Sys2Proof.Machine

/-! ### One block at a time -/

/-- Changes XP alone. -/
def State.onXp (f : Xp → Xp) (s : State) : State := { s with xp := f s.xp }

/-- Changes OU alone. -/
def State.onOu (f : Ou → Ou) (s : State) : State := { s with ou := f s.ou }

/-- Changes PS alone. -/
def State.onPs (f : Ps → Ps) (s : State) : State := { s with ps := f s.ps }

/-- Changes the loop controllers alone. -/
def State.onLc (f : Lc → Lc) (s : State) : State := { s with lc := f s.lc }

/-- Changes ZA alone. -/
def State.onZa (f : Za → Za) (s : State) : State := { s with za := f s.za }

/-- Changes DU alone. -/
def State.onDu (f : Du → Du) (s : State) : State := { s with du := f s.du }

/-- Changes CU alone. -/
def State.onCu (f : Cu → Cu) (s : State) : State := { s with cu := f s.cu }

/-- Changes RL alone. -/
def State.onRl (f : Rl → Rl) (s : State) : State := { s with rl := f s.rl }

/-- Changes the messages on their way alone. -/
def State.onMail (f : Mail → Mail) (s : State) : State := { s with mail := f s.mail }

/-- Changes the plan banks alone. -/
def State.onMem (f : Memory → Memory) (s : State) : State := { s with mem := f s.mem }

/-- A zone's record in ZA. -/
def State.zone (s : State) (z : Nat) : Zone := s.za.zones.get z

/-- An area's record in ZA. -/
def State.area (s : State) (a : Nat) : Area := s.za.areas.get a

/-- A device's record in its loop controller, by device index. -/
def State.device (s : State) (i : Nat) : Device := s.lc.devices.get i

/-- A detector's or break-glass contact's record in ZA, by device index. -/
def State.detector (s : State) (i : Nat) : Detector := s.za.detectors.get i

/-- A loop's record. -/
def State.loop (s : State) (l : Nat) : Loop := s.lc.loops.get l

/-- A door's record in DU. -/
def State.door (s : State) (d : Nat) : Door := s.du.doors.get d

/-- An order slot. -/
def State.slot (s : State) (n : Nat) : Slot := s.ou.slots.get n

/-- Changes a zone's record. -/
def State.setZone (z : Nat) (f : Zone → Zone) (s : State) : State := s.onZa (fun za => { za with zones := za.zones.modify z f })

/-- Changes an area's record. -/
def State.setArea (a : Nat) (f : Area → Area) (s : State) : State := s.onZa (fun za => { za with areas := za.areas.modify a f })

/-- Changes a detector's record. -/
def State.setDetector (i : Nat) (f : Detector → Detector) (s : State) : State :=
  s.onZa (fun za => { za with detectors := za.detectors.modify i f })

/-- Changes a device's record. -/
def State.setDevice (i : Nat) (f : Device → Device) (s : State) : State :=
  s.onLc (fun lc => { lc with devices := lc.devices.modify i f })

/-- Changes a loop's record. -/
def State.setLoop (l : Nat) (f : Loop → Loop) (s : State) : State := s.onLc (fun lc => { lc with loops := lc.loops.modify l f })

/-- Changes a door's record. -/
def State.setDoor (d : Nat) (f : Door → Door) (s : State) : State := s.onDu (fun du => { du with doors := du.doors.modify d f })

/-- Changes an order slot. -/
def State.setSlot (n : Nat) (f : Slot → Slot) (s : State) : State := s.onOu (fun ou => { ou with slots := ou.slots.modify n f })

/-! ### Time -/

/-- The present second. -/
def State.now (s : State) : Nat := s.xp.seconds

/-- The uptime count (R165): after 4,294,967,295 it goes to 0. -/
def State.uptime (s : State) : Word := wordOf s.xp.seconds

/-- A timer that runs to second `t` has run out; a timer that is stopped does not expire (00, 'Conventions'). -/
def expired (t : Option Nat) (now : Nat) : Bool :=
  match t with
  | none => false
  | some e => e ≤ now

/-- What a timer still has to run, 0 when it does not run (R27). -/
def remaining (t : Option Nat) (now : Nat) : Nat :=
  match t with
  | none => 0
  | some e => e - now

/-- Adds one to a count that stops at 255. -/
def count255 (n : Nat) : Nat := if 255 ≤ n then 255 else n + 1

/-! ### Zones and areas -/

/-- A zone's regime: that of its innermost area (R12); DAY where no area holds the zone. -/
def State.regimeOf (s : State) (z : Nat) : Regime :=
  match s.plan.innermost z with
  | none => .day
  | some a => (s.area a).regime

/-- The coincidence flag in force for a zone (R5). -/
def State.coincidence (s : State) (z : Nat) : Bool :=
  match s.regimeOf z with
  | .day => s.plan.dayCoincidence z
  | .closing => s.plan.nightCoincidence z
  | .night => s.plan.nightCoincidence z

/-- A device condition that sets its zone's fault mark (R8). -/
def DeviceCond.isFault : DeviceCond → Bool
  | .missing => true
  | .wrongKind => true
  | .fault => true
  | _ => false

/-- A zone's fault mark: some planned device naming the zone is MISSING, WRONG_KIND or in FAULT (R8). -/
def State.faultMark (s : State) (z : Nat) : Bool :=
  s.plan.zonePlanned z &&
    PlanBank.deviceNumbers.any (fun i => (s.device i).cond.isFault && s.plan.devicePlanned i && s.plan.deviceZone i = z)

/-- How many zones of a planned area's range satisfy a test; the tallies of an area that is not planned are 0 (R13). -/
def State.tally (s : State) (a : Nat) (f : Nat → Bool) : Nat :=
  if s.plan.areaPlanned a then (PlanBank.zoneNumbers.filter (fun z => f z && s.plan.inArea a z)).length else 0

/-- The alarm tally (R13). -/
def State.alarmTally (s : State) (a : Nat) : Nat := s.tally a (fun z => (s.zone z).cond = .alarm)

/-- The warn tally (R13). -/
def State.warnTally (s : State) (a : Nat) : Nat := s.tally a (fun z => (s.zone z).cond = .warn)

/-- The fault tally (R13). -/
def State.faultTally (s : State) (a : Nat) : Nat := s.tally a s.faultMark

/-- The isolated tally (R13). -/
def State.isolatedTally (s : State) (a : Nat) : Nat := s.tally a (fun z => (s.zone z).cond = .isolated)

/-- The higher of two phases, EVACUATE above ALERT above NONE (R12). -/
def Phase.max : Phase → Phase → Phase
  | .evacuate, _ => .evacuate
  | _, .evacuate => .evacuate
  | .alert, _ => .alert
  | _, .alert => .alert
  | .none, .none => .none

/-- A zone's effective phase: the highest phase of any area containing it (R12). -/
def State.effectivePhase (s : State) (z : Nat) : Phase :=
  PlanBank.areaNumbers.foldl (fun acc a =>
    if (s.area a).phase ≠ .none && s.plan.inArea a z then acc.max (s.area a).phase else acc) .none

/-! ### Outputs (R50) -/

/-- Hands an output value for a device to its loop controller: it replaces the one held, and is sent from the next entry on unless the device
is ISOLATED (R50). -/
def Lc.hand (i : Nat) (v : BitVec 4) (lc : Lc) : Lc :=
  { lc with
    devices := lc.devices.modify i (fun x =>
      { x with handed := some v, output := if x.cond = .isolated then x.output else some v }) }

/-- Hands several outputs, one after another. -/
def Lc.handAll (vs : List (Nat × BitVec 4)) (lc : Lc) : Lc := vs.foldl (fun acc q => acc.hand q.1 q.2) lc

/-! ### Messages -/

/-- ZA tells RL and CU (R7, R12). -/
def State.tellRl (ms : List ZaMessage) (s : State) : State := s.onMail (fun m => { m with zaOut := m.zaOut ++ ms })

/-- DU tells RL and ZA of a door's new condition (R56). -/
def State.tellDoor (d : Nat) (c : DoorCond) (s : State) : State := s.onMail (fun m => { m with duOut := m.duOut ++ [(d, c)] })

/-! ### Completing a slot (R162, R163) -/

/-- Result words 1 to 6 from the words given, every unused one 0. -/
def resultWords (ws : List Word) : Table Word 1 6 := (Table.fill 0).map (fun k _ => ws.getD (k - 1) 0)

/-- Completes a slot: result words, then the completion word with the slot's tag, then DONE (R162). -/
def Slot.complete (code : Completion) (ws : List Word) (x : Slot) : Slot :=
  { x with results := resultWords ws, completion := code, doneTag := x.tag, handover := .done }

/-- The slot completes; its done summary bit is set with its state (R168). -/
def Ou.complete (n : Nat) (code : Completion) (ws : List Word) (ou : Ou) : Ou :=
  { ou with slots := ou.slots.modify n (Slot.complete code ws) }

/-- OU's work on its order ends with a completion; a slot lost to an interface reset gets none (R173). -/
def Ou.endWork (w : Working) (code : Completion) (ws : List Word) (ou : Ou) : Ou :=
  match w.slot with
  | none => { ou with working := none }
  | some n => { ou.complete n code ws with working := none }

/-- OU's work on its order ends with the order held; an order that has lost its slot runs on with no entry (R163). -/
def Ou.holdWork (w : Working) (owner : HeldOwner) (ou : Ou) : Ou :=
  match w.slot with
  | none => { ou with working := none }
  | some n => { ou with held := ou.held ++ [{ slot := n, owner := owner }], working := none }

/-- The owner ends a held operation: its entry is removed and its slot completes; without an entry no completion is written (R163). -/
def Ou.endHeld (owner : HeldOwner) (code : Completion) (ws : List Word) (ou : Ou) : Ou :=
  match ou.held.find? (fun h => h.owner = owner) with
  | none => ou
  | some h => { ou.complete h.slot code ws with held := ou.held.filter (fun x => x.owner ≠ owner) }

/-- The owner ends a held operation (R163). -/
def State.endHeld (owner : HeldOwner) (code : Completion) (ws : List Word) (s : State) : State :=
  s.onOu (Ou.endHeld owner code ws)

/-- The site is quiet: the sequence is CALM and no lighting test is held (R150, R151). -/
def State.quiet (s : State) : Bool := s.za.seq = .calm && s.rl.test.isNone

end Sys2Proof.Machine
end

