-- ==== Sys2Proof/Machine/Layout.lean ====
section
/-!
DEFINITION. The bytes the host sees: every record of the live tables, the control block, the slots, the banks and the registers, as
09_record_layouts gives them (R174), and the host's read (R156). State holds each value once, in the unit that owns it; these are the views.
-/

namespace Sys2Proof.Machine

/-- A boolean at a bit position. -/
def flagAt (b : Bool) (i : Nat) : Nat := if b then 2 ^ i else 0

/-- A byte. -/
def byte1 (n : Nat) : List Byte := [byteOf n]

/-- Two bytes, little-endian. -/
def byte2 (n : Nat) : List Byte := [byteOf n, byteOf (n / 256)]

/-- Four bytes, little-endian (R174); a time is shown modulo 2^32. -/
def byte4 (n : Nat) : List Byte := [byteOf n, byteOf (n / 256), byteOf (n / 65536), byteOf (n / 16777216)]

/-- Spare bytes read 0 (R174). -/
def spare (n : Nat) : List Byte := List.replicate n 0

/-! ### Codes (09) -/

def ZoneCond.code : ZoneCond → Nat
  | .unplanned => 0
  | .quiet => 1
  | .warn => 2
  | .alarm => 3
  | .isolated => 4
  | .test => 5

def Cause.code : Cause → Nat
  | .none => 0
  | .detector => 1
  | .coincident => 2
  | .manual => 3
  | .escalated => 4

def Selection.code : Selection → Nat
  | .none => 0
  | .route r => r
  | .refuge => 255

def Regime.code : Regime → Nat
  | .day => 1
  | .closing => 2
  | .night => 3

def Phase.code : Phase → Nat
  | .none => 0
  | .alert => 1
  | .evacuate => 2

def DeviceCond.code : DeviceCond → Nat
  | .none => 0
  | .waiting => 1
  | .ok => 2
  | .missing => 3
  | .wrongKind => 4
  | .fault => 5
  | .isolated => 6

def kindCode : DeviceKind → Nat
  | .detector => 1
  | .breakglass => 2
  | .door => 3
  | .help => 4
  | .sign => 5
  | .lamp => 6
  | .sounder => 7

def DetState.code : DetState → Nat
  | .normal => 1
  | .warn => 2
  | .alarm => 3

def Indication.code : Indication → Nat
  | .off => 0
  | .left => 1
  | .right => 2
  | .ahead => 3
  | .up => 4
  | .down => 5
  | .refuge => 6
  | .noEntry => 7

def DoorCond.code : DoorCond → Nat
  | .none => 0
  | .secure => 1
  | .free => 2
  | .opened => 3
  | .forced => 4
  | .held => 5
  | .jammedShut => 6
  | .jammedFree => 7
  | .failClose => 8
  | .unknown => 9
  | .isolated => 10

def CallState.code : CallState → Nat
  | .waiting => 1
  | .offered => 2
  | .attended => 3

def Reason.code : Reason → Nat
  | .press => 1
  | .nightPress => 2
  | .forced => 3
  | .held => 4
  | .jammedShut => 5
  | .failClose => 6
  | .pull => 7
  | .leftOpen => 8

def CircuitState.code : CircuitState → Nat
  | .none => 0
  | .normal => 1
  | .onBattery => 2
  | .functionTest => 3
  | .durationTest => 4
  | .recharge => 5
  | .fault => 6
  | .unknown => 7

def TestResult.code : TestResult → Nat
  | .none => 0
  | .pass => 1
  | .aborted => 2
  | .fail m => 64 + m

def LoopState.code : LoopState → Nat
  | .idle => 0
  | .rollcall => 1
  | .ring => 2
  | .split => 3
  | .severed => 4
  | .failed => 5

def SiteSeq.code : SiteSeq → Nat
  | .calm => 0
  | .awaitAck => 1
  | .searching => 1
  | .general => 2

def SiteSeq.subCode : SiteSeq → Nat
  | .calm => 0
  | .awaitAck => 1
  | .searching => 2
  | .general => 0

def Attach.code : Attach → Nat
  | .unwatched => 0
  | .attached => 1
  | .detached => 2

def StagedState.code : StagedState → Nat
  | .edit => 1
  | .checking => 2
  | .waiting => 3

def Ps.activeCode (ps : Ps) : Nat :=
  match ps.active with
  | none => 0
  | some .a => 1
  | some .b => 2

def RefusedReason.code : RefusedReason → Nat
  | .protectedWord => 1
  | .state => 2
  | .size => 3
  | .unassigned => 4

def Handover.code : Handover → Nat
  | .free => 0
  | .committed => 1
  | .taken => 2
  | .done => 3

def Completion.code : Completion → Nat
  | .none => 0
  | .ok => 1
  | .kept => 2
  | .malformed => 3
  | .noPlan => 4
  | .noSuch => 5
  | .refusedState => 6
  | .refusedSite => 7
  | .refusedCover => 8
  | .cancelled => 9
  | .aborted => 10
  | .failed => 11
  | .invalidPlan => 12

/-! ### Bodies of the live records (the bytes after the change count) -/

/-- The byte for a zone's count of detectors in ALARM; above 255 it is a free value (log entry 49). -/
def alarmCountByte (n : Nat) : Byte := if n ≤ 255 then byteOf n else Config.alarmCountBeyondByte n

/-- A zone record. -/
def State.zoneBody (s : State) (z : Nat) : List Byte :=
  byte1 (s.zone z).cond.code ++ byte1 (s.zone z).cause.code ++ [alarmCountByte (s.zone z).detCount]
    ++ byte1 (flagAt (s.faultMark z) 0 + flagAt (s.rl.zones.get z).stranded 1) ++ byte1 (s.zone z).testCount
    ++ byte1 (s.rl.zones.get z).selection.code ++ spare 1 ++ byte4 (s.zone z).entry ++ spare 4

/-- The regime an area's record shows: code 0 for an area that is not planned (R13). -/
def State.shownRegime (s : State) (a : Nat) : Nat := if s.plan.areaPlanned a then (s.area a).regime.code else 0

/-- An area record. -/
def State.areaBody (s : State) (a : Nat) : List Byte :=
  byte1 (s.shownRegime a) ++ byte1 (s.area a).phase.code ++ byte1 (s.alarmTally a) ++ byte1 (s.warnTally a)
    ++ byte1 (s.faultTally a) ++ byte1 (s.isolatedTally a) ++ spare 1 ++ byte4 ((s.area a).phaseEnd.getD 0) ++ spare 4

/-- The sign that names a device. -/
def PlanBank.signOfDevice (p : PlanBank) (i : Nat) : Option Nat :=
  PlanBank.signNumbers.find? (fun g => p.signPlanned g && p.signDevice g = i)

/-- Byte 3 of a device record: detector state, or a sign's indication and flash (09, R117). -/
def State.stateByte (s : State) (i : Nat) : Nat :=
  match s.plan.deviceKind i with
  | some .detector => (s.detector i).state.code
  | some .breakglass => (s.detector i).state.code
  | some .sign =>
    match s.plan.signOfDevice i with
    | none => 0
    | some g => (s.rl.signs.get g).indication.code + flagAt (s.rl.signs.get g).flash 7
  | _ => 0

/-- A device record. -/
def State.deviceBody (s : State) (i : Nat) : List Byte :=
  byte1 (s.device i).cond.code
    ++ byte1 (flagAt (s.device i).extra 0 + flagAt (s.detector i).latched 1 + flagAt (s.detector i).testHit 2
        + 16 * ((s.device i).extraKind.map kindCode).getD 0)
    ++ byte1 (s.stateByte i) ++ byte1 (flagAt (s.device i).faultBit 0 + 16 * (s.device i).echo.toNat)
    ++ byte1 (s.device i).miss ++ byte2 (s.device i).value.toNat

/-- The claims byte of a door record. -/
def Door.claimsByte (x : Door) : Nat :=
  flagAt x.pull 0 + flagAt x.keys 1 + flagAt x.evac 2 + flagAt x.lockdown 3 + flagAt x.hold.isSome 4 + flagAt x.pass.isSome 5

/-- The hold mode byte: 0 none, 1 FREE, 2 LOCKED. -/
def Door.holdByte (x : Door) : Nat :=
  match x.hold with
  | none => 0
  | some false => 1
  | some true => 2

/-- A door record. -/
def State.doorBody (s : State) (d : Nat) : List Byte :=
  byte1 (s.door d).cond.code ++ byte1 (s.door d).claimsByte ++ byte1 (s.door d).holdByte
    ++ byte1 (flagAt (s.door d).cmdLocked 0 + flagAt (s.door d).holderOn 1)
    ++ byte1 (flagAt (s.door d).posOpen 0 + flagAt (s.door d).exitPressed 1 + flagAt (s.door d).lockEngaged 2
        + flagAt (s.door d).pullOperated 3)
    ++ byte1 (s.door d).forcedCount ++ spare 1 ++ byte4 ((s.door d).pass.getD 0) ++ spare 4

/-- The body of a call record, all 0 for a free entry (R85). -/
def callBody (c : Option Call) : List Byte :=
  match c with
  | none => spare 15
  | some c =>
    byte1 (c.state.code + flagAt c.aged 4 + flagAt c.inAlarm 5 + flagAt c.stranded 6) ++ byte2 c.serial ++ byte1 c.source
      ++ byte1 c.zone ++ byte1 (c.level + 16 * c.reason.code) ++ byte1 c.repeats ++ byte4 c.admitted ++ byte4 c.lastRaise

/-- The call an entry holds. -/
def Cu.entry (cu : Cu) (e : Nat) : Option Call := cu.calls.find? (fun c => c.entry = e)

/-- A source record. -/
def State.sourceBody (s : State) (n : Nat) : List Byte :=
  byte1 (s.cu.sources.get n).base
    ++ (match (s.cu.sources.get n).pending with
        | none => spare 2
        | some (l, r) => byte1 (l + 128) ++ byte1 r.code)

/-- Bytes 2 and 3 of a route record. -/
def BlockCause.bytes : BlockCause → List Byte
  | .none => byte1 0 ++ byte1 0
  | .barred => byte1 1 ++ byte1 0
  | .zone z => byte1 2 ++ byte1 z
  | .door d => byte1 3 ++ byte1 d

/-- A route record. -/
def State.routeBody (s : State) (r : Nat) : List Byte :=
  byte1 (flagAt (s.rl.routes.get r).usable 0) ++ (s.rl.routes.get r).cause.bytes

/-- A lamp record. -/
def State.lampBody (s : State) (c : Nat) : List Byte :=
  byte1 (s.rl.circuits.get c).state.code ++ byte1 (s.rl.circuits.get c).reserve ++ byte1 (s.rl.circuits.get c).result.code
    ++ byte4 ((s.rl.circuits.get c).recharge.getD 0)

/-- A loop record. -/
def State.loopBody (s : State) (l : Nat) : List Byte :=
  byte1 (s.loop l).state.code ++ byte1 (s.loop l).number ++ byte1 (flagAt (s.loop l).endADown 0 + flagAt (s.loop l).endBDown 1)
    ++ byte1 (s.loop l).attempt ++ byte1 (s.loop l).disagree ++ byte1 (s.loop l).extraCount ++ byte1 (s.loop l).firstExtra
    ++ byte1 (s.loop l).breakA ++ byte1 (s.loop l).breakB ++ spare 22

/-- The first-alarm list (R26). -/
def State.firstBody (s : State) : List Byte :=
  byte1 s.za.first.length ++ spare 2 ++ (List.range 120).map (fun k => byteOf (s.za.first.getD k 0)) ++ spare 4

/-- The body of the live record with a given change summary number (09, 'Control block'). -/
def State.recordBody (s : State) (k : Nat) : List Byte :=
  if k < 120 then s.zoneBody (k + 1)
  else if k < 144 then s.areaBody (k - 120)
  else if k < 528 then s.deviceBody (k - 143)
  else if k < 592 then s.doorBody (k - 527)
  else if k < 624 then callBody (s.cu.entry (k - 592))
  else if k < 768 then s.sourceBody (k - 623)
  else if k < 816 then s.routeBody (k - 767)
  else if k < 848 then s.lampBody (k - 815)
  else if k < 852 then s.loopBody (k - 848)
  else s.firstBody

/-- A live record whole: its change count, then its body. -/
def State.recordBytes (s : State) (k : Nat) : List Byte := s.xp.counts.get k :: s.recordBody k

/-- The record and the byte within it at an offset of the live tables (09, 'Live tables'). -/
def recordAt (t : Nat) : Nat × Nat :=
  if t < 0x780 then (t / 16, t % 16)
  else if t < 0x900 then (120 + (t - 0x780) / 16, t % 16)
  else if t < 0x1500 then (144 + (t - 0x900) / 8, t % 8)
  else if t < 0x1900 then (528 + (t - 0x1500) / 16, t % 16)
  else if t < 0x1B00 then (592 + (t - 0x1900) / 16, t % 16)
  else if t < 0x1D40 then (624 + (t - 0x1B00) / 4, t % 4)
  else if t < 0x1E00 then (768 + (t - 0x1D40) / 4, t % 4)
  else if t < 0x1F00 then (816 + (t - 0x1E00) / 8, t % 8)
  else if t < 0x1F80 then (848 + (t - 0x1F00) / 32, t % 32)
  else (852, t - 0x1F80)

/-! ### Control block, slots, registers -/

/-- The site summary after its change count (R27, R139). -/
def State.siteSummary (s : State) : List Byte :=
  byte1 s.za.seq.code ++ byte1 s.za.seq.subCode ++ byte1 (s.za.first.headD 0)
    ++ byte1 (flagAt s.za.silenced 0 + flagAt s.za.keysHeld 1) ++ byte1 s.xp.attach.code ++ spare 2
    ++ byte4 (remaining s.za.siteEnd s.now)

/-- The plan status after its change count (R145). -/
def State.planStatus (s : State) : List Byte :=
  byte1 s.ps.activeCode ++ byte1 s.ps.staged.code ++ byte1 s.ps.lastCheck ++ byte2 s.ps.lastIndex

/-- The refused-write capture after its change count (R158). -/
def Capture.bytes (c : Capture) : List Byte :=
  byte1 ((c.reason.map RefusedReason.code).getD 0) ++ byte1 c.count ++ spare 1 ++ byte4 c.offset.toNat ++ byte4 c.value.toNat

/-- The done summary: a slot's bit is set exactly while the slot is DONE (R168). -/
def State.doneSummary (s : State) : Nat :=
  (List.range 24).foldl (fun acc n => acc + flagAt ((s.slot n).handover = .done) n) 0

/-- A byte of the control block. -/
def State.controlByte (s : State) (o : Nat) : Byte :=
  if o < 0x10 then (s.xp.siteCount :: s.siteSummary).getD o 0
  else if o < 0x20 then (s.xp.planCount :: s.planStatus).getD (o - 0x10) 0
  else if o < 0x30 then (byte4 s.now).getD (o - 0x20) 0
  else if o < 0x40 then (s.xp.captureCount :: s.xp.capture.bytes).getD (o - 0x30) 0
  else if o < 0x44 then (byte4 s.doneSummary).getD (o - 0x40) 0
  else if o < 0x80 then 0
  else if o < 0xEC then byteOfWord (s.xp.summary.get ((o - 0x80) / 4)) (o % 4)
  else 0

/-- A word of a slot, 0 to 15 (09, 'Order slots'). -/
def Slot.wordAt (x : Slot) (k : Nat) : Word :=
  match k with
  | 0 => wordOf x.handover.code
  | 1 => x.code
  | 2 => wordOf (flagAt x.urgent 0)
  | 3 => wordOf (x.argCount.toNat + 65536 * x.tag.toNat)
  | 9 => wordOf (x.completion.code + 65536 * x.doneTag.toNat)
  | k => if k < 9 then x.args.get (k - 4) else x.results.get (k - 9)

/-- The registers at their offsets (09); none at any other offset. -/
def State.register (s : State) (o : Nat) : Option Word :=
  if o = Config.identOffset then some Config.ident
  else if o = Config.controlOffset then some (wordOf (flagAt s.xp.lineEnable 0))
  else if o = Config.noticeOffset then some (wordOf s.xp.notice.toNat)
  else if o = Config.noticeMaskOffset then some (wordOf s.xp.mask.toNat)
  else if o = Config.presenceOffset then some (wordOf s.xp.lapse)
  else none

/-- A byte of exchange memory at a window offset. -/
def State.exchangeByte (s : State) (o : Nat) : Byte :=
  if o < Config.slotBase then s.controlByte o
  else if o < Config.liveBase then
    byteOfWord ((s.slot ((o - Config.slotBase) / 64)).wordAt ((o - Config.slotBase) % 64 / 4)) (o % 4)
  else if o < Config.bankABase then
    (s.recordBytes (recordAt (o - Config.liveBase)).1).getD (recordAt (o - Config.liveBase)).2 0
  else Memory.read s.mem o

/-- A word from its four bytes, byte 0 the least significant (R174). -/
def wordOfBytes (b0 b1 b2 b3 : Byte) : Word :=
  wordOf (b0.toNat + 256 * b1.toNat + 65536 * b2.toNat + 16777216 * b3.toNat)

/-- What a host read returns (R156): 0 for an access that is not an aligned word and for an unassigned offset. A read changes nothing. -/
def State.hostRead (s : State) (offset : BitVec 15) (size : AccessSize) : Word :=
  if size = .word ∧ offset.toNat % 4 = 0 then
    if offset.toNat < Config.bankBBase + Config.bankSize then
      wordOfBytes (s.exchangeByte offset.toNat) (s.exchangeByte (offset.toNat + 1)) (s.exchangeByte (offset.toNat + 2))
        (s.exchangeByte (offset.toNat + 3))
    else (s.register offset.toNat).getD 0
  else 0

/-- The notice line (R170): asserted while LINE_ENABLE is 1 and a cause is set whose mask bit is 1. -/
def State.noticeLine (s : State) : Bool := s.xp.lineEnable && (s.xp.notice &&& s.xp.mask) ≠ 0

end Sys2Proof.Machine
end

