-- ==== Sys2Proof/Machine/Flags.lean ====
section
/-!
DEFINITION. Change counts, change summary bits and NOTICE causes. A record is rewritten at each change of a field it shows (R13, R56, R84, R85, R107,
R118 ...), so XP compares the records before and after a command and rewrites, once, each that changed (R166, R167; log entry 5); a rewrite that a
rule asks for whether or not the record then shows something new is made too (R6, R30, R39, R49, R55, R134), and what doors, calls and sources show
between the events of an activation stands (R56, R106, R154). A cause of NOTICE is set when what R169's table names has changed (log entry 7), and
where a rule raises it outright (R24, R55). WRITE is set where a write is refused (R158).
-/

namespace Sys2Proof.Machine

/-- Bit of a NOTICE cause (09). -/
def causeBit (b : Bool) (i : Nat) : Byte := if b then 1#8 <<< i else 0#8

/-- SITE (R169): the sequence or a field of ZA's site summary other than the remaining time, a zone's condition, an area's phase or regime. DESIGN CHOICE,
log entry 57: the regime is the one the area record shows, so an area that an activation newly plans, or removes while in DAY, raises SITE (R13, R29). -/
def siteChanged (s t : State) : Bool :=
  s.za.seq ≠ t.za.seq || s.za.first.headD 0 ≠ t.za.first.headD 0 || s.za.silenced ≠ t.za.silenced
    || s.za.keysHeld ≠ t.za.keysHeld
    || PlanBank.zoneNumbers.any (fun z => (s.zone z).cond ≠ (t.zone z).cond)
    || PlanBank.areaNumbers.any (fun a => (s.area a).phase ≠ (t.area a).phase || s.shownRegime a ≠ t.shownRegime a)

/-- DOOR (R169): a door's condition. -/
def doorChanged (s t : State) : Bool := PlanBank.doorNumbers.any (fun d => (s.door d).cond ≠ (t.door d).cond)

/-- CALL (R169): the call list or the offer. -/
def callChanged (s t : State) : Bool := s.cu.calls ≠ t.cu.calls

/-- ROUTE (R169): a route's usability, a selected route, a STRANDED mark, a sign indication (with its flash, R117) or a circuit's state.
DESIGN CHOICE, log entry 58: at an activation a sign is compared by its number, one that is not planned counting as OFF and steady; R131 does not say
what counts for a sign that joins the plan, leaves it or changes its device. -/
def routeChanged (s t : State) : Bool :=
  PlanBank.routeNumbers.any (fun r => (s.rl.routes.get r).usable ≠ (t.rl.routes.get r).usable)
    || PlanBank.zoneNumbers.any (fun z => (s.rl.zones.get z).selection ≠ (t.rl.zones.get z).selection
        || (s.rl.zones.get z).stranded ≠ (t.rl.zones.get z).stranded)
    || PlanBank.signNumbers.any (fun g => s.rl.signs.get g ≠ t.rl.signs.get g)
    || PlanBank.circuitNumbers.any (fun c => (s.rl.circuits.get c).state ≠ (t.rl.circuits.get c).state)

/-- LOOP (R169): a loop state or a device condition, or an EXTRA mark newly set. -/
def loopChanged (s t : State) : Bool :=
  (List.range 4).any (fun l => (s.loop l).state ≠ (t.loop l).state)
    || PlanBank.deviceNumbers.any (fun i => (s.device i).cond ≠ (t.device i).cond || (!(s.device i).extra && (t.device i).extra))

/-- PLAN (R169): the staged state changes, or a bank is activated. -/
def planChanged (s t : State) : Bool := s.ps.staged ≠ t.ps.staged || s.ps.active ≠ t.ps.active

/-- ORDER (R169): a slot becomes DONE. -/
def orderDone (s t : State) : Bool :=
  (List.range 24).any (fun n => (s.slot n).handover ≠ .done && (t.slot n).handover = .done)

/-- The causes that a command taking the part from s to t sets, WRITE aside. -/
def raisedCauses (s t : State) : Byte :=
  causeBit (orderDone s t) 0 ||| causeBit (siteChanged s t) 1 ||| causeBit (doorChanged s t) 2 ||| causeBit (callChanged s t) 3
    ||| causeBit (routeChanged s t) 4 ||| causeBit (loopChanged s t) 5 ||| causeBit (planChanged s t) 6

/-! ### Rewrites (R166, R167) -/

/-- The live record of area a, counted as the change summaries count them (R167). -/
def areaRecord (a : Nat) : Nat := 120 + a

/-- The live record of device index i. -/
def deviceRecord (i : Nat) : Nat := 143 + i

/-- Record k is the live record of a device index of which p holds. -/
def deviceRecords (p : Nat → Bool) (k : Nat) : Bool := 144 ≤ k && k < 528 && p (k - deviceRecord 0)

/-- The live record of loop l. -/
def loopRecord (l : Nat) : Nat := 848 + l

/-- A change count after a rewrite: odd, then even again; 255 goes to 0 (R166). -/
def advance (changed : Bool) (c : Byte) : Byte := if changed then c + 2 else c

/-- The bits of change summary word i that stand for the records named (R167). -/
def summaryBits (records : Nat → Bool) (i : Nat) : Word :=
  (List.range 32).foldl (fun acc j => if records (32 * i + j) then acc ||| (1#32 <<< j) else acc) 0

/-- XP rewrites the live records named: their change counts advance (R166) and their change summary bits are set (R167). -/
def Xp.rewrite (records : Nat → Bool) (xp : Xp) : Xp :=
  { xp with
    counts := xp.counts.map (fun k c => advance (records k) c)
    summary := xp.summary.map (fun i w => w ||| summaryBits records i) }

/-- A unit has XP rewrite live records, whether or not they show something new. -/
def State.rewrite (records : Nat → Bool) (s : State) : State := s.onXp (Xp.rewrite records)

/-- A unit asks XP to set NOTICE cause i where b holds (R169). -/
def State.raise (b : Bool) (i : Nat) (s : State) : State := s.onXp (fun xp => { xp with notice := xp.notice ||| causeBit b i })

/-- ZA has rewritten the count of zone z's detectors in ALARM, be it the same as before: z was and is in ALARM, and one of its detectors or break-glass
contacts has changed state (R6). -/
def recounted (s t : State) (z : Nat) : Bool :=
  (s.zone z).cond = .alarm && (t.zone z).cond = .alarm &&
    PlanBank.deviceNumbers.any (fun i => (s.detector i).state ≠ (t.detector i).state && s.plan.deviceZone i = z
      && (s.plan.deviceKind i = some .detector || s.plan.deviceKind i = some .breakglass))

/-- Record k is rewritten by XP at the end of a command taking the part from s to t: what it shows has changed or its zone's count was rewritten, and
no rewrite of it was made within the command. A record that shows the same again after changes within the command is not rewritten for them (log
entry 5). -/
def rewritten (s t : State) (k : Nat) : Bool :=
  k < Config.liveRecords && s.xp.counts.get k = t.xp.counts.get k
    && (s.recordBody k ≠ t.recordBody k || (k < 120 && recounted s t (k + 1)))

/-- DU has taken the doors from s to t as one of several events of a command: their records are rewritten, and DOOR is raised for a change of condition,
whatever the later events make of it (R56). -/
def State.showDoors (s t : State) : State :=
  (t.rewrite (fun k => 528 ≤ k && k < 592 && rewritten s t k)).raise (doorChanged s t) 2

/-- CU has taken its calls and sources from s to t as one of several events of a command: the records that have changed are rewritten, and CALL is raised
for a change of the call list, whatever the later events make of them (R85, R95, R106, R154). -/
def State.showCalls (s t : State) : State :=
  (t.rewrite (fun k => 592 ≤ k && k < 768 && s.recordBody k ≠ t.recordBody k)).raise (callChanged s t) 3

/-- XP's part of a command that has taken the units from s to t: the rewrites (R166), the change summary bits (R167), the causes (R169).
The notice line follows from the registers (R170). DESIGN CHOICE, log entry 55: the site summary, and likewise the plan status, is rewritten once by a
command after which it shows something new, be it several units that have changed it (R141, R165). -/
def publish (s t : State) : State :=
  t.onXp (fun xp =>
    { xp.rewrite (rewritten s t) with
      siteCount := advance (s.siteSummary ≠ t.siteSummary) xp.siteCount
      planCount := advance (s.planStatus ≠ t.planStatus) xp.planCount
      notice := xp.notice ||| raisedCauses s t })

/-- A command that takes the units from s to t answers the published state. -/
def done (s t : State) : Host.Outcome State Fault Refusal := .next (publish s t)

/-- A command whose event cannot happen in s leaves the part as it is (log entry 2). -/
def nothing (s : State) : Host.Outcome State Fault Refusal := .next s

end Sys2Proof.Machine
end

