-- ==== Sys2Proof/Machine/Operands.lean ====
section
/-!
DEFINITION. The operands of an order: its code, its argument count and the generic checks of R161, and the frame in which every owner
carries out the order that OU is working on (R162).
-/

namespace Sys2Proof.Machine

/-- The argument count of each order code; none for a code of no order (09, 'Order slots'). -/
def orderArity (code : Nat) : Option Nat :=
  match code with
  | 0x01 => some 1
  | 0x10 => some 0
  | 0x11 => some 0
  | 0x12 => some 0
  | 0x13 => some 1
  | 0x14 => some 0
  | 0x15 => some 1
  | 0x16 => some 1
  | 0x17 => some 1
  | 0x18 => some 2
  | 0x20 => some 1
  | 0x21 => some 1
  | 0x22 => some 2
  | 0x23 => some 2
  | 0x30 => some 2
  | 0x31 => some 2
  | 0x32 => some 1
  | 0x33 => some 1
  | 0x34 => some 1
  | 0x35 => some 1
  | 0x36 => some 1
  | 0x37 => some 1
  | 0x40 => some 1
  | 0x41 => some 1
  | 0x42 => some 2
  | 0x50 => some 1
  | 0x51 => some 1
  | 0x52 => some 3
  | 0x53 => some 0
  | 0x60 => some 1
  | 0x61 => some 0
  | _ => none

/-- The order a code and its argument words spell; none where an argument holds an unassigned code (R174) or the code is no order's. -/
def orderOf (code a b c : Nat) : Option Order :=
  match code with
  | 0x01 => some (.cancel a)
  | 0x10 => some .acknowledge
  | 0x11 => some .silence
  | 0x12 => some .resound
  | 0x13 => some (.evacuate (if a = 255 then none else some a))
  | 0x14 => some .resetSite
  | 0x15 => some (.isolateZone a)
  | 0x16 => some (.restoreZone a)
  | 0x17 => some (.testZone a)
  | 0x18 => if b = 1 then some (.setRegime a false) else if b = 3 then some (.setRegime a true) else none
  | 0x20 => some (.startLoop a)
  | 0x21 => some (.stopLoop a)
  | 0x22 => some (.isolateDevice a b)
  | 0x23 => some (.restoreDevice a b)
  | 0x30 => some (.passDoor a b)
  | 0x31 => if b = 1 then some (.holdDoor a false) else if b = 2 then some (.holdDoor a true) else none
  | 0x32 => some (.releaseHold a)
  | 0x33 => some (.lockdown a)
  | 0x34 => some (.endLockdown a)
  | 0x35 => some (.clearPull a)
  | 0x36 => some (.isolateDoor a)
  | 0x37 => some (.restoreDoor a)
  | 0x40 => some (.attendCall a)
  | 0x41 => some (.closeCall a)
  | 0x42 => some (.setCallLevel a b)
  | 0x50 => some (.barRoute a)
  | 0x51 => some (.unbarRoute a)
  | 0x52 =>
    if a = 1 then some (.testLights false (wordOf b) c) else if a = 2 then some (.testLights true (wordOf b) c) else none
  | 0x53 => some .stopTest
  | 0x60 => if a = 1 then some (.commitPlan false) else if a = 2 then some (.commitPlan true) else none
  | 0x61 => some .copyPlan
  | _ => none

/-- Every order needs an active plan apart from COMMIT PLAN and CANCEL (R161). -/
def needsPlan (code : Nat) : Bool := code ≠ 0x01 && code ≠ 0x60

/-- The circuits of a circuit set: bit n - 1 for circuit n (09). -/
def circuitsOf (set : Word) : List Nat := PlanBank.circuitNumbers.filter (fun c => set.getLsbD (c - 1))

/-- Every argument lies in its range and names what the plan plans (R161 check 3, with the ranges of the orders' own rules). -/
def Order.argsOk (p : PlanBank) : Order → Bool
  | .cancel n => isSlot n
  | .evacuate none => true
  | .evacuate (some a) => p.areaPlanned a
  | .isolateZone z => p.zonePlanned z
  | .restoreZone z => p.zonePlanned z
  | .testZone z => p.zonePlanned z
  | .setRegime a _ => p.areaPlanned a
  | .startLoop l => p.loopPlanned l
  | .stopLoop l => isLoop l
  | .isolateDevice l x => isLoop l && isAddress x && p.devicePlanned (PlanBank.deviceIndex l x)
  | .restoreDevice l x => isLoop l && isAddress x && p.devicePlanned (PlanBank.deviceIndex l x)
  | .passDoor d n => p.doorPlanned d && n ≤ 60
  | .holdDoor d _ => p.doorPlanned d
  | .releaseHold d => p.doorPlanned d
  | .lockdown a => p.areaPlanned a
  | .endLockdown a => p.areaPlanned a
  | .clearPull d => p.doorPlanned d
  | .isolateDoor d => p.doorPlanned d
  | .restoreDoor d => p.doorPlanned d
  | .attendCall n => 1 ≤ n && n ≤ 65535
  | .closeCall n => 1 ≤ n && n ≤ 65535
  | .setCallLevel n v => 1 ≤ n && n ≤ 144 && p.sourcePlanned n && v ≤ 3
  | .barRoute r => p.routePlanned r
  | .unbarRoute r => p.routePlanned r
  | .testLights duration set hours =>
    set ≠ 0 && (circuitsOf set).all p.lampPlanned && (!duration || hours = 1 || hours = 3)
  | .acknowledge | .silence | .resound | .resetSite | .stopTest | .commitPlan _ | .copyPlan => true

/-- What the generic checks of R161 make of a slot: the order, or the code of the first check that fails. -/
def genericChecks (s : State) (x : Slot) : Except Completion Order :=
  if orderArity x.code.toNat ≠ some x.argCount.toNat then .error .malformed
  else if needsPlan x.code.toNat && s.ps.active.isNone then .error .noPlan
  else
    match orderOf x.code.toNat (x.args.get 0).toNat (x.args.get 1).toNat (x.args.get 2).toNat with
    | none => .error .noSuch
    | some o => if o.argsOk s.plan then .ok o else .error .noSuch

/-- How an owner ends its work on an order (R162). -/
inductive Ending where
  /-- The order is immediate: its completion code and result words. -/
  | completes (s : State) (code : Completion) (words : List Word)
  /-- The order becomes held. -/
  | held (s : State) (owner : HeldOwner)

/-- OU's part of the end of its work on an order (R162, R163). -/
def Ending.apply (w : Working) : Ending → State
  | .completes s code words => s.onOu (Ou.endWork w code words)
  | .held s owner => s.onOu (Ou.holdWork w owner)

/-- Carries out the order OU is working on, when it is one that `act` knows; otherwise the event cannot occur (log entry 2). An argument that
an activation has meanwhile put outside the plan completes NO_SUCH (log entry 19). -/
def workOn (act : Order → Option (State → Ending)) (s : State) : Host.Outcome State Fault Refusal :=
  match s.ou.working with
  | none => nothing s
  | some w =>
    match act w.order with
    | none => nothing s
    | some f => if w.order.argsOk s.plan then done s ((f s).apply w) else done s (s.onOu (Ou.endWork w .noSuch []))

end Sys2Proof.Machine
end

