-- ==== Sys2Proof/Machine/Calls.lean ====
section
/-!
DEFINITION. The call unit: admission, repeats, waiting marks, the offer, ageing and escalation, the help points and their indicators
(R84 to R106), and the meanings of its commands.
-/

namespace Sys2Proof.Machine

/-! ### The offer (R93 to R95) -/

/-- The attend level: the highest level of any ATTENDED call, 0 when none is. -/
def Cu.attendLevel (cu : Cu) : Nat := (cu.calls.filter (fun c => c.state = .attended)).foldl (fun m c => max m c.level) 0

/-- Some call is ATTENDED. -/
def Cu.attending (cu : Cu) : Bool := cu.calls.any (fun c => c.state = .attended)

/-- A call is eligible for the offer in NESTED mode (R93) or in QUEUED mode (R94). -/
def Cu.eligible (nested : Bool) (cu : Cu) (c : Call) : Bool :=
  c.state ≠ .attended &&
    (if nested then cu.attendLevel < c.level
     else !cu.attending || (cu.attendLevel < c.level && (c.reason = .pull || c.stranded)))

/-- The call of highest level, the one admitted earlier among equals. -/
def bestCall : List Call → Option Call
  | [] => none
  | c :: cs =>
    match bestCall cs with
    | none => some c
    | some d => if c.level < d.level then some d else some c

/-- CU decides the offer afresh (R95): the best eligible call is OFFERED, and no other. -/
def Cu.decideOffer (nested : Bool) (cu : Cu) : Cu :=
  { cu with
    calls := cu.calls.map (fun c =>
      if c.state = .attended then c
      else if (bestCall (cu.calls.filter (cu.eligible nested))).map Call.entry = some c.entry then { c with state := .offered }
      else { c with state := .waiting }) }

/-! ### Admission (R86, R88 to R92) -/

/-- The serial after another; a counter at 65,535 goes to 1 (R86). -/
def bumpSerial (n : Nat) : Nat := if 65535 ≤ n then 1 else n + 1

/-- Adds one again while the serial is that of a call in the list (R86). -/
def freshSerial (used : List Nat) : Nat → Nat → Nat
  | 0, n => n
  | k + 1, n => if used.contains n then freshSerial used k (bumpSerial n) else n

/-- The serial of the next admission (R86). -/
def Cu.nextSerial (cu : Cu) : Nat := freshSerial (cu.calls.map Call.serial) cu.calls.length (bumpSerial cu.serial)

/-- The free entry with the lowest number (R85). -/
def Cu.freeEntry (cu : Cu) : Nat :=
  ((List.range Config.callEntries).find? (fun e => !(cu.calls.map Call.entry).contains e)).getD 0

/-- A press or a door alert as CU takes it (R88, R92). -/
structure Press where
  source : Nat
  zone : Nat
  level : Nat
  reason : Reason
  inAlarm : Bool
  stranded : Bool

/-- Admits a new call (R88, R91). -/
def Cu.admitCall (now : Nat) (q : Press) (cu : Cu) : Cu :=
  { cu with
    serial := cu.nextSerial
    calls := cu.calls ++
      [{ entry := cu.freeEntry, serial := cu.nextSerial, source := q.source, zone := q.zone, level := q.level, reason := q.reason,
         state := .waiting, admitted := now, lastRaise := now, repeats := 0, aged := false, inAlarm := q.inAlarm,
         stranded := q.stranded }] }

/-- The call of a source. -/
def Cu.callOf (n : Nat) (cu : Cu) : Option Call := cu.calls.find? (fun c => c.source = n)

/-- A repeat of a call (R89). -/
def Call.again (now : Nat) (q : Press) (c : Call) : Call :=
  { c with
    repeats := count255 c.repeats
    level := max c.level q.level
    lastRaise := if c.level < q.level then now else c.lastRaise
    aged := if c.level < q.level then false else c.aged
    reason := if c.level < q.level ∨ q.reason = .pull then q.reason else c.reason
    inAlarm := c.inAlarm || q.inAlarm
    stranded := c.stranded || q.stranded }

/-- A press that finds the list full (R90). -/
def Source.mark (q : Press) (x : Source) : Source :=
  match x.pending with
  | none => { x with pending := some (q.level, q.reason) }
  | some (l, r) =>
    { x with pending := some (max l q.level, if l < q.level ∨ q.reason = .pull then q.reason else r) }

/-- CU takes a press: a repeat, a new call, or a waiting mark (R88). -/
def Cu.takePress (now : Nat) (q : Press) (cu : Cu) : Cu :=
  if (cu.callOf q.source).isSome then
    { cu with calls := cu.calls.map (fun c => if c.source = q.source then c.again now q else c) }
  else if cu.calls.length < Config.callEntries then cu.admitCall now q
  else { cu with sources := cu.sources.modify q.source (Source.mark q) }

/-- The marked source of highest pending level, the lowest numbered among equals (R91). -/
def Cu.bestMarked (cu : Cu) : Option (Nat × Nat × Reason) :=
  PlanBank.sourceNumbers.foldl (fun best n =>
    match (cu.sources.get n).pending with
    | none => best
    | some (l, r) =>
      match best with
      | none => some (n, l, r)
      | some (_, m, _) => if m < l then some (n, l, r) else best) none

/-- Admits marked sources into freed entries, one after another, until the list is full or no source is marked (R91). -/
def Cu.admitWaiting (zoneOf : Nat → Nat) (now : Nat) : Nat → Cu → Cu
  | 0, cu => cu
  | k + 1, cu =>
    if Config.callEntries ≤ cu.calls.length then cu
    else
      match cu.bestMarked with
      | none => cu
      | some (n, l, r) =>
        Cu.admitWaiting zoneOf now k
          ({ cu with sources := cu.sources.modify n (fun x => { x with pending := none }) }.admitCall now
            { source := n, zone := zoneOf n, level := l, reason := r, inAlarm := cu.zoneAlarm.get (zoneOf n),
              stranded := cu.zoneStranded.get (zoneOf n) })

/-- Removes a call and admits marked sources in the same event (R91, R97). -/
def Cu.removeCall (zoneOf : Nat → Nat) (now : Nat) (keep : Call → Bool) (cu : Cu) : Cu :=
  Cu.admitWaiting zoneOf now Config.callEntries { cu with calls := cu.calls.filter keep }

/-- A zone has entered ALARM or become STRANDED: its calls take level 3 and the mark, its waiting sources pending level 3 (R101, R102). -/
def Cu.raiseZone (zoneOf : Nat → Nat) (now z : Nat) (mark : Call → Call) (cu : Cu) : Cu :=
  { cu with
    calls := cu.calls.map (fun c =>
      if c.zone = z then mark { c with level := 3, lastRaise := if c.level < 3 then now else c.lastRaise } else c)
    sources := cu.sources.map (fun n x =>
      match x.pending with
      | none => x
      | some (_, r) => if zoneOf n = z then { x with pending := some (3, r) } else x) }

/-! ### Indicators (R103, R104) -/

/-- The output code of an indicator (09). -/
def Indicator.output : Indicator → BitVec 4
  | .off => 0
  | .steady => 1
  | .flash => 2
  | .fast => 3

/-- R103, for the source of a help point. -/
def Cu.indicatorFor (detached : Bool) (n : Nat) (cu : Cu) : Indicator :=
  match cu.callOf n with
  | some c => if c.state = .attended then .flash else if detached then .fast else .steady
  | none => if (cu.sources.get n).pending.isSome then (if detached then .fast else .steady) else .off

/-- The indicator of a help point as R103 gives it now. -/
def State.indicatorOf (s : State) (h : Nat) : Indicator := s.cu.indicatorFor (s.xp.attach = .detached) h

/-- CU decides one planned help point's indicator and hands it on change. -/
def State.refreshHelp (s : State) (h : Nat) : State :=
  if s.plan.helpPlanned h && (s.cu.helps.get h).indicator ≠ some (s.indicatorOf h) then
    (s.onCu (fun cu => { cu with helps := cu.helps.modify h (fun x => { x with indicator := some (s.indicatorOf h) }) })).onLc
      (Lc.hand (s.plan.helpDevice h) (s.indicatorOf h).output)
  else s

/-- CU decides every indicator (R104). -/
def State.refreshHelps (s : State) : State := PlanBank.helpNumbers.foldl State.refreshHelp s

/-- CU decides the offer, then the indicators that follow (R95, R103). -/
def State.settleCalls (s : State) : State := (s.onCu (Cu.decideOffer s.plan.nested)).refreshHelps

/-! ### Presses and alerts -/

/-- The level of a press or alert in its zone (R88, R92): 3 in ALARM or STRANDED. -/
def Cu.zoneLevel (cu : Cu) (z level : Nat) : Nat := if cu.zoneAlarm.get z || cu.zoneStranded.get z then 3 else level

/-- A door alert as CU takes it (R92). -/
def State.alertPress (s : State) (d : Nat) (reason : Reason) (level : Nat) : Press :=
  { source := 80 + d, zone := s.plan.doorZone d,
    level := s.cu.zoneLevel (s.plan.doorZone d) (max level (s.cu.sources.get (80 + d)).base), reason := reason,
    inAlarm := s.cu.zoneAlarm.get (s.plan.doorZone d), stranded := s.cu.zoneStranded.get (s.plan.doorZone d) }

/-- DU sends a door alert and CU takes it (R71, R92). -/
def State.alert (d : Nat) (reason : Reason) (level : Nat) (s : State) : State :=
  (s.onCu (Cu.takePress s.now (s.alertPress d reason level))).settleCalls

/-- A press of a help point as CU takes it (R88). -/
def State.helpPress (s : State) (h : Nat) : Press :=
  { source := h, zone := s.plan.helpZone h,
    level := s.cu.zoneLevel (s.plan.helpZone h)
      (if s.regimeOf (s.plan.helpZone h) = .day then (s.cu.sources.get h).base else 3),
    reason := if s.regimeOf (s.plan.helpZone h) = .day then .press else .nightPress,
    inAlarm := s.cu.zoneAlarm.get (s.plan.helpZone h), stranded := s.cu.zoneStranded.get (s.plan.helpZone h) }

/-- The cancel key of a help point (R98). -/
def State.cancelKey (h : Nat) (s : State) : State :=
  if (s.cu.callOf h).isSome then s.onCu (Cu.removeCall s.plan.sourceZone s.now (fun c => c.source ≠ h))
  else s.onCu (fun cu => { cu with sources := cu.sources.modify h (fun x => { x with pending := none }) })

/-- CU takes a HELP answer: both controls accepted, the cancel key acted on first (R87). -/
def State.helpReport (h : Nat) (value : Half) (s : State) : State :=
  let was := s.cu.helps.get h
  let button := value.getLsbD 0
  let cancel := value.getLsbD 1
  let s := s.onCu (fun cu =>
    { cu with helps := cu.helps.modify h (fun x => { x with button := button, cancel := cancel, settle := false }) })
  let s := if cancel && !was.cancel && !was.settle then s.cancelKey h else s
  let s := if button && (was.settle || !was.button) then s.onCu (Cu.takePress s.now (s.helpPress h)) else s
  s.settleCalls

/-! ### Zones, as ZA and RL tell of them -/

/-- ZA has told CU that a zone entered or left ALARM (R101). -/
def State.callsAlarm (z : Nat) (entered : Bool) (s : State) : State :=
  if entered then
    (s.onCu (fun cu => Cu.raiseZone s.plan.sourceZone s.now z (fun c => { c with inAlarm := true })
      { cu with zoneAlarm := cu.zoneAlarm.set z true })).settleCalls
  else s.onCu (fun cu => { cu with zoneAlarm := cu.zoneAlarm.set z false })

/-- RL has told CU that a zone became or ceased to be STRANDED (R102). -/
def State.callsStranded (s : State) (z : Nat) (stranded : Bool) : State :=
  if stranded then
    (s.onCu (fun cu => Cu.raiseZone s.plan.sourceZone s.now z (fun c => { c with stranded := true })
      { cu with zoneStranded := cu.zoneStranded.set z true })).settleCalls
  else s.onCu (fun cu => { cu with zoneStranded := cu.zoneStranded.set z false })

/-! ### Orders and ageing -/

/-- ATTEND CALL (R96). -/
def attendCall (n : Nat) (s : State) : Ending :=
  match s.cu.calls.find? (fun c => c.serial = n) with
  | none => .completes s .noSuch []
  | some c =>
    if c.state = .attended then .completes s .kept []
    else
      .completes (s.onCu (fun cu =>
        { cu with calls := cu.calls.map (fun x => if x.serial = n then { x with state := .attended } else x) })).settleCalls .ok []

/-- ATTEND_CALL (R96). -/
def execAttendCall (s : State) : Host.Outcome State Fault Refusal :=
  workOn (fun | .attendCall n => some (attendCall n) | _ => none) s

/-- CLOSE CALL (R97). -/
def closeCall (n : Nat) (s : State) : Ending :=
  if s.cu.calls.any (fun c => c.serial = n) then
    .completes (s.onCu (Cu.removeCall s.plan.sourceZone s.now (fun c => c.serial ≠ n))).settleCalls .ok []
  else .completes s .noSuch []

/-- CLOSE_CALL (R97). -/
def execCloseCall (s : State) : Host.Outcome State Fault Refusal :=
  workOn (fun | .closeCall n => some (closeCall n) | _ => none) s

/-- The call table after SET CALL LEVEL with a level of 1 to 3 (R99). -/
def Cu.setLevel (now n level : Nat) (cu : Cu) : Cu :=
  { cu with
    sources := cu.sources.modify n (fun x =>
      { base := level, pending := x.pending.map (fun q => (max q.1 level, q.2)) })
    calls := cu.calls.map (fun c =>
      if c.source = n ∧ c.level < level then { c with level := level, lastRaise := now, aged := false } else c) }

/-- SET CALL LEVEL (R99). -/
def setCallLevel (n level : Nat) (s : State) : Ending :=
  if level = 0 then .completes s .kept []
  else if s.cu.setLevel s.now n level = s.cu then .completes s .kept []
  else .completes (s.onCu (Cu.setLevel s.now n level)).settleCalls .ok []

/-- SET_CALL_LEVEL (R99). -/
def execSetCallLevel (s : State) : Host.Outcome State Fault Refusal :=
  workOn (fun | .setCallLevel n level => some (setCallLevel n level) | _ => none) s

/-- A call ages now: WAITING or OFFERED, below level 3, its age time passed since its last raise (R100). -/
def Call.agesAt (age now : Nat) (c : Call) : Bool := c.state ≠ .attended && c.level < 3 && c.lastRaise + age ≤ now

/-- CALL_AGEING (R100). -/
def execCallAgeing (e : Nat) (s : State) : Host.Outcome State Fault Refusal :=
  if s.cu.calls.any (fun c => c.entry = e && c.agesAt s.plan.ageTime s.now) then
    done s (s.onCu (fun cu =>
      { cu with
        calls := cu.calls.map (fun c =>
          if c.entry = e ∧ c.agesAt s.plan.ageTime s.now = true then
            { c with level := c.level + 1, lastRaise := s.now, aged := true }
          else c) })).settleCalls
  else nothing s

/-! ### Activation -/

/-- A help point taking up a new plan: unplanned, it has no indicator; newly planned or with another device, it is due to settle (R106). -/
def HelpPoint.takeUp (old p : PlanBank) (h : Nat) (x : HelpPoint) : HelpPoint :=
  if p.helpPlanned h then
    (if old.helpPlanned h && old.helpDevice h = p.helpDevice h then x else { x with settle := true, indicator := none })
  else .zero

/-- R106, steps 1 to 4. -/
def Cu.takeUp (old p : PlanBank) (now : Nat) (cu : Cu) : Cu :=
  Cu.admitWaiting p.sourceZone now Config.callEntries
    { cu with
      calls := (cu.calls.filter (fun c => p.sourcePlanned c.source)).map (fun c => { c with zone := p.sourceZone c.source })
      sources := cu.sources.map (fun n x => if p.sourcePlanned n then { x with base := p.sourceBaseLevel n } else .zero)
      helps := cu.helps.map (HelpPoint.takeUp old p) }

/-- CU takes up the new plan, which is already the active one (R106). -/
def State.callsTakeUp (old : PlanBank) (s : State) : State := (s.onCu (Cu.takeUp old s.plan s.now)).settleCalls

end Sys2Proof.Machine
end

