-- ==== Sys2Proof/Machine/Doors.lean ====
section
/-!
DEFINITION. The door unit: input filters, claims and the lock command, holders, door conditions, timers and alerts, the door orders
(R56 to R72, R76 to R83), and the meanings of its commands.
-/

namespace Sys2Proof.Machine

/-- What the decisions about a door read besides its own record: the plan, its device, ZA's state, the time. -/
structure DoorView where
  kind : PlanBank.DoorKind
  /-- The door's device is OK. -/
  reachable : Bool
  regime : Regime
  /-- Holder flag, effective phase NONE and alarm tally 0 of the zone's innermost area (R64). -/
  holderMay : Bool
  now : Nat

/-- The device of a door is OK. -/
def State.doorReachable (s : State) (d : Nat) : Bool := (s.device (s.plan.doorDevice d)).cond = .ok

/-- The view of a planned door. -/
def State.doorView (s : State) (d : Nat) : DoorView :=
  { kind := (s.plan.doorKind d).getD .publicDoor
    reachable := s.doorReachable d
    regime := s.regimeOf (s.plan.doorZone d)
    holderMay := s.plan.holderFlag d && (s.zone (s.plan.doorZone d)).phase = .none &&
      (match s.plan.innermost (s.plan.doorZone d) with
       | none => true
       | some a => s.alarmTally a = 0)
    now := s.now }

/-! ### Claims and outputs (R61, R64); `true` is LOCKED -/

/-- BASELINE's command: FREE for a PUBLIC door by day, LOCKED otherwise (R61). -/
def baseline (kind : PlanBank.DoorKind) (regime : Regime) : Bool := !(kind = .publicDoor && regime = .day)

/-- The command of the highest-ranked claim other than PASS (R61). -/
def Door.standing (v : DoorView) (x : Door) : Bool :=
  if x.pull || x.keys || x.evac then false
  else if x.lockdown then true
  else x.hold.getD (baseline v.kind v.regime)

/-- The command of the highest-ranked claim (R61). -/
def Door.command (v : DoorView) (x : Door) : Bool :=
  if x.pull || x.keys || x.evac then false
  else if x.lockdown then true
  else
    match x.hold with
    | some locked => locked
    | none => if x.pass.isSome then false else baseline v.kind v.regime

/-- The holder output (R64). -/
def Door.holder (v : DoorView) (x : Door) : Bool := v.kind = .fire && v.holderMay && v.regime = .day && !x.keys

/-! ### Marks, timers and the condition -/

/-- The marks and timers of the door are in force: it is reachable, not isolated and not due to settle (R60, R66, R80; log entry 18). -/
def Door.watched (v : DoorView) (x : Door) : Bool := !x.isolated && v.reachable && !x.settle

/-- How the lock disagrees with the command (R69). -/
def Door.disagreement (v : DoorView) (x : Door) : Jam :=
  if x.watched v && v.kind ≠ .fire then
    (if !x.command v && x.lockEngaged then .shut
     else if x.command v && !x.posOpen && !x.lockEngaged then .free
     else .none)
  else .none

/-- The marks that stay (R67 to R70). -/
def Door.keepMarks (v : DoorView) (x : Door) : Door :=
  { x with
    forced := x.forced && (x.posOpen || (!x.lockEngaged && x.command v))
    held := x.held && x.posOpen && x.standing v
    failClose := x.failClose && x.posOpen && !x.holder v
    jam := if x.jam = x.disagreement v then x.jam else .none }

/-- The conditions under which the hold timer runs (R68). -/
def Door.holdRuns (v : DoorView) (x : Door) : Bool :=
  x.watched v && v.kind ≠ .fire && x.posOpen && !x.forced && x.standing v && !x.held

/-- The conditions under which the close timer runs (R70). -/
def Door.closeRuns (v : DoorView) (x : Door) : Bool :=
  x.watched v && v.kind = .fire && x.posOpen && !x.holder v && !x.failClose

/-- The lock sense timer: it runs for a disagreement that has not set its mark, from the moment that disagreement began (R69). -/
def Door.lockTimer (v : DoorView) (x : Door) : Option (Jam × Nat) :=
  if x.disagreement v = .none || x.jam ≠ .none then none
  else
    match x.lockStart with
    | some (k, t) => if k = x.disagreement v then some (k, t) else some (x.disagreement v, v.now)
    | none => some (x.disagreement v, v.now)

/-- The timers that run: each keeps its start, or starts now (R68 to R70). -/
def Door.runTimers (v : DoorView) (x : Door) : Door :=
  { x with
    holdStart := if x.holdRuns v then some (x.holdStart.getD v.now) else none
    lockStart := x.lockTimer v
    closeStart := if x.closeRuns v then some (x.closeStart.getD v.now) else none }

/-- The condition of a planned door (R65). -/
def Door.decide (v : DoorView) (x : Door) : DoorCond :=
  if x.isolated then .isolated
  else if !v.reachable then .unknown
  else if x.forced then .forced
  else if x.failClose then .failClose
  else if x.jam = .shut then .jammedShut
  else if x.jam = .free then .jammedFree
  else if x.held then .held
  else if x.posOpen then .opened
  else if v.kind ≠ .fire && x.command v && x.lockEngaged then .secure
  else .free

/-- The outputs last handed: those decided, except while the door is ISOLATED (R61, R80). -/
def Door.outputs (v : DoorView) (x : Door) : Door :=
  if x.isolated then x else { x with cmdLocked := x.command v, holderOn := x.holder v }

/-- DU decides a planned door afresh: marks, timers, outputs, condition. -/
def Door.refresh (v : DoorView) (x : Door) : Door :=
  { ((x.keepMarks v).runTimers v).outputs v with cond := (x.keepMarks v).decide v }

/-- The output value of a DOOR device: bit 0 LOCKED, bit 1 holder ON (09). -/
def Door.output (x : Door) : BitVec 4 := BitVec.ofNat 4 (flagAt x.cmdLocked 0 + flagAt x.holderOn 1)

/-- Marks, timers and filter candidates cleared (R66, R80). -/
def Door.clearMarks (x : Door) : Door :=
  { x with
    forced := false, failClose := false, held := false, jam := .none, holdStart := none, lockStart := none, closeStart := none }

/-- Both filter candidates discarded (R58). -/
def Door.clearFilters (x : Door) : Door := { x with posCand := none, exitCand := none }

/-! ### Alerts (R71) -/

/-- The level of the alert that the entry of a door into a condition sends; none where it sends no alert (R71). -/
def entryAlert (p : PlanBank) (d : Nat) (v : DoorView) (x : Door) : Option (Reason × Nat) :=
  match x.cond with
  | .forced =>
    if v.regime = .day then (if p.forcedByDay d then some (.forced, p.dayLevel d) else none) else some (.forced, 3)
  | .held => some (.held, if v.regime = .day then 2 else 3)
  | .jammedShut => some (.jammedShut, if x.evac then 3 else 2)
  | .failClose => some (.failClose, 3)
  | _ => none

/-- Hands a door's output. -/
def State.handDoor (d : Nat) (s : State) : State :=
  s.onLc (Lc.hand (s.plan.doorDevice d) (s.door d).output)

/-- What follows a new decision about door d, which was x before: its output, and the message to RL and ZA (R56, R57). -/
def State.afterDoor (d : Nat) (was now : Door) (force : Bool) (s : State) : State :=
  let s := if force || now.cmdLocked ≠ was.cmdLocked || now.holderOn ≠ was.holderOn then s.handDoor d else s
  if now.cond = was.cond then s else s.tellDoor d now.cond

/-- The alert that a new decision about door d sends, as reason and level (R71). -/
def State.dueAlert (s : State) (d : Nat) (f : Door → Door) : Option (Reason × Nat) :=
  let now := (f (s.door d)).refresh (s.doorView d)
  if now.cond = (s.door d).cond then none else entryAlert s.plan d (s.doorView d) now

/-- DU changes a planned door's record and decides the door afresh, its alert apart; `force` hands the output whether or not it changed (R81, R83). -/
def State.moveDoor (d : Nat) (f : Door → Door) (force : Bool) (s : State) : State :=
  let was := s.door d
  let now := (f was).refresh (s.doorView d)
  (s.setDoor d (fun _ => now)).afterDoor d was now force

/-- DU changes a planned door's record, decides the door afresh and sends its alert. -/
def State.decideDoor (d : Nat) (f : Door → Door) (force : Bool) (s : State) : State :=
  match s.dueAlert d f with
  | none => s.moveDoor d f force
  | some (reason, level) => (s.moveDoor d f force).alert d reason level

/-- DU decides a door afresh where it is planned. -/
def State.refreshDoor (s : State) (d : Nat) : State := if s.plan.doorPlanned d then s.decideDoor d id false else s

/-- DU decides every door afresh, in ascending door number (log entry 14). -/
def State.refreshDoors (s : State) : State := PlanBank.doorNumbers.foldl State.refreshDoor s

/-- DU changes a planned door and decides it. -/
def State.onDoor (d : Nat) (f : Door → Door) (s : State) : State := if s.plan.doorPlanned d then s.decideDoor d f false else s

/-! ### Reports (R57 to R60, R67) -/

/-- The four inputs of a DOOR answer's value (09). -/
structure DoorInputs where
  posOpen : Bool
  exitPressed : Bool
  lockEngaged : Bool
  pullOperated : Bool
deriving DecidableEq, Repr

/-- The inputs a value carries. -/
def doorInputs (v : Half) : DoorInputs :=
  { posOpen := v.getLsbD 0, exitPressed := v.getLsbD 1, lockEngaged := v.getLsbD 2, pullOperated := v.getLsbD 3 }

/-- Settling: the report is the starting point, without events; a pull found OPERATED adds the PULL claim (R60). -/
def Door.settleOn (q : DoorInputs) (x : Door) : Door :=
  { x with
    posOpen := q.posOpen, exitPressed := q.exitPressed, lockEngaged := q.lockEngaged, pullOperated := q.pullOperated,
    posCand := none, exitCand := none, pull := x.pull || q.pullOperated, settle := false }

/-- Lock sense and pull, accepted at once (R59). -/
def Door.acceptSenses (q : DoorInputs) (x : Door) : Door :=
  { x with
    lockEngaged := q.lockEngaged, pull := x.pull || (q.pullOperated && !x.pullOperated), pullOperated := q.pullOperated }

/-- A PASS claim added, or moved to the later of two expiries (R62). -/
def Door.addPass (e : Nat) (x : Door) : Door :=
  { x with pass := some (match x.pass with | none => e | some t => max t e) }

/-- The exit request through its filter (R58); an accepted request adds a PASS claim (R62). -/
def Door.filterExit (check passEnd : Nat) (q : DoorInputs) (x : Door) : Door :=
  if q.exitPressed = x.exitPressed then { x with exitCand := none }
  else if check ≤ x.exitCand.getD 0 + 1 then
    (if q.exitPressed then { x with exitPressed := true, exitCand := none }.addPass passEnd
     else { x with exitPressed := false, exitCand := none })
  else { x with exitCand := some (x.exitCand.getD 0 + 1) }

/-- The position through its filter (R58). `wasSecure` says that the door was SECURE just before this report. -/
def Door.filterPos (check : Nat) (wasSecure : Bool) (v : DoorView) (q : DoorInputs) (x : Door) : Door :=
  let cand := x.posCand.getD { count := 0, wasSecure := q.posOpen && wasSecure }
  if q.posOpen = x.posOpen then { x with posCand := none }
  else if check ≤ cand.count + 1 then
    (if q.posOpen && v.kind ≠ .fire && cand.wasSecure && x.command v && x.pass.isNone then
      { x with posOpen := true, posCand := none, forced := true, forcedCount := count255 x.forcedCount }
     else { x with posOpen := q.posOpen, posCand := none })
  else { x with posCand := some { cand with count := cand.count + 1 } }

/-- A report that DU takes, in the sequence of R57, before the door is decided. -/
def Door.takeReport (check passEnd : Nat) (v : DoorView) (q : DoorInputs) (x : Door) : Door :=
  ((x.acceptSenses q).filterExit check passEnd q).filterPos check (x.cond = .secure) v q

/-- DU takes a DOOR answer as a report (R57). -/
def State.doorReport (d : Nat) (value : Half) (s : State) : State :=
  let x := s.door d
  let q := doorInputs value
  if x.isolated then s
  else if x.settle then s.decideDoor d (Door.settleOn q) false
  else
    let s := s.setDoor d (fun x => x.takeReport (s.plan.checkCount d) (s.now + s.plan.passTime d) (s.doorView d) q)
    let s := if q.pullOperated && !x.pullOperated then s.alert d .pull 3 else s
    s.decideDoor d id false

/-- The door's device has left OK: the door becomes UNKNOWN (R66). -/
def State.doorLost (d : Nat) (s : State) : State :=
  s.onDoor d (fun x => { x.clearMarks.clearFilters with settle := true })

/-! ### Timers -/

/-- PASS_EXPIRY (R62). -/
def execPassExpiry (d : Nat) (s : State) : Host.Outcome State Fault Refusal :=
  if expired (s.door d).pass s.now then done s (s.onDoor d (fun x => { x with pass := none })) else nothing s

/-- The hold timer of a door has run its limit (R68). -/
def State.holdRunOut (s : State) (d : Nat) : Bool :=
  expired ((s.door d).holdStart.map (fun t => t + s.plan.holdLimit d)) s.now

/-- The hold timer expires: the HELD mark (R68). -/
def Door.holdExpires (x : Door) : Door := { x with held := true, holdStart := none }

/-- DOOR_HOLD_TIMER_EXPIRY (R68). -/
def execDoorHoldTimerExpiry (d : Nat) (s : State) : Host.Outcome State Fault Refusal :=
  if s.holdRunOut d then done s (s.onDoor d Door.holdExpires) else nothing s

/-- The lock sense timer expires: the jammed mark; JAMMED_FREE clears the FORCED mark (R69). -/
def Door.lockExpires (x : Door) : Door :=
  match x.lockStart with
  | none => x
  | some (k, _) => { x with jam := k, lockStart := none, forced := x.forced && k ≠ .free }

/-- LOCK_SENSE_TIMER_EXPIRY (R69). -/
def execLockSenseTimerExpiry (d : Nat) (s : State) : Host.Outcome State Fault Refusal :=
  if expired ((s.door d).lockStart.map (fun q => q.2 + Config.lockSenseTime)) s.now then done s (s.onDoor d Door.lockExpires)
  else nothing s

/-- The close timer of a door has run its time (R70). -/
def State.closeRunOut (s : State) (d : Nat) : Bool :=
  expired ((s.door d).closeStart.map (fun t => t + s.plan.closeTime d)) s.now

/-- The close timer expires: the FAIL_CLOSE mark (R70). -/
def Door.closeExpires (x : Door) : Door := { x with failClose := true, closeStart := none }

/-- CLOSE_TIMER_EXPIRY (R70). -/
def execCloseTimerExpiry (d : Nat) (s : State) : Host.Outcome State Fault Refusal :=
  if s.closeRunOut d then done s (s.onDoor d Door.closeExpires) else nothing s

/-- DU sends the LEFT_OPEN alert for one door of an area whose closing timer has expired (R72). The door's condition is the one DU holds at that moment,
also where the message that tells ZA of it still waits (log entry 46). -/
def State.leftOpenDoor (a : Nat) (s : State) (d : Nat) : State :=
  if s.plan.publicOrStaff d && s.plan.inArea a (s.plan.doorZone d) && (s.door d).cond ≠ .secure then s.alert d .leftOpen 2 else s

/-- R72. -/
def State.leftOpen (a : Nat) (s : State) : State := PlanBank.doorNumbers.foldl (State.leftOpenDoor a) s

/-- EVAC_CLAIM_REQUEST (R63): DU carries out RL's next request; a STRONG door is passed by (R61). -/
def execEvacClaimRequest (s : State) : Host.Outcome State Fault Refusal :=
  match s.mail.rlOut with
  | [] => nothing s
  | (d, add) :: rest =>
    done s
      ((s.onMail (fun m => { m with rlOut := rest })).onDoor d (fun x =>
        if add && s.plan.doorKind d = some .strong then x else { x with evac := add }))

/-! ### Orders (R76 to R81) -/

/-- PASS DOOR (R76). -/
def passDoor (d seconds : Nat) (s : State) : Ending :=
  let e := s.now + (if seconds = 0 then s.plan.passTime d else seconds)
  match (s.door d).pass with
  | none => .completes (s.onDoor d (Door.addPass e)) .ok []
  | some t => if t < e then .completes (s.onDoor d (Door.addPass e)) .ok [] else .completes s .kept []

/-- PASS_DOOR (R76). -/
def execPassDoor (s : State) : Host.Outcome State Fault Refusal :=
  workOn (fun | .passDoor d n => some (passDoor d n) | _ => none) s

/-- HOLD DOOR (R77). -/
def holdDoor (d : Nat) (shut : Bool) (s : State) : Ending :=
  if (s.door d).hold = some shut then .completes s .kept []
  else .completes (s.onDoor d (fun x => { x with hold := some shut })) .ok []

/-- HOLD_DOOR (R77). -/
def execHoldDoor (s : State) : Host.Outcome State Fault Refusal :=
  workOn (fun | .holdDoor d shut => some (holdDoor d shut) | _ => none) s

/-- RELEASE HOLD (R77). -/
def releaseHold (d : Nat) (s : State) : Ending :=
  if (s.door d).hold = none then .completes s .kept []
  else .completes (s.onDoor d (fun x => { x with hold := none })) .ok []

/-- RELEASE_HOLD (R77). -/
def execReleaseHold (s : State) : Host.Outcome State Fault Refusal :=
  workOn (fun | .releaseHold d => some (releaseHold d) | _ => none) s

/-- A planned door of a kind that takes LOCKDOWN claims, in the area (R78). -/
def State.lockable (s : State) (a d : Nat) : Bool :=
  s.plan.doorPlanned d && s.plan.doorKind d ≠ some .fire && s.plan.inArea a (s.plan.doorZone d)

/-- A planned door in the area. -/
def State.doorIn (s : State) (a d : Nat) : Bool := s.plan.doorPlanned d && s.plan.inArea a (s.plan.doorZone d)

/-- Changes several doors, one after another in ascending number. -/
def State.onDoors (ds : List Nat) (f : Door → Door) (s : State) : State := ds.foldl (fun s d => s.onDoor d f) s

/-- The doors that LOCKDOWN gives a claim. -/
def State.toLockDown (s : State) (a : Nat) : List Nat :=
  PlanBank.doorNumbers.filter (fun d => s.lockable a d && !(s.door d).lockdown)

/-- The doors that END LOCKDOWN takes a claim from. -/
def State.toEndLockdown (s : State) (a : Nat) : List Nat :=
  PlanBank.doorNumbers.filter (fun d => s.doorIn a d && (s.door d).lockdown)

/-- LOCKDOWN (R78). -/
def lockdown (a : Nat) (s : State) : Ending :=
  .completes (s.onDoors (s.toLockDown a) (fun x => { x with lockdown := true }))
    (if (s.toLockDown a).isEmpty then .kept else .ok) []

/-- LOCKDOWN (R78). -/
def execLockdown (s : State) : Host.Outcome State Fault Refusal :=
  workOn (fun | .lockdown a => some (lockdown a) | _ => none) s

/-- END LOCKDOWN (R78). -/
def endLockdown (a : Nat) (s : State) : Ending :=
  .completes (s.onDoors (s.toEndLockdown a) (fun x => { x with lockdown := false }))
    (if (s.toEndLockdown a).isEmpty then .kept else .ok) []

/-- END_LOCKDOWN (R78). -/
def execEndLockdown (s : State) : Host.Outcome State Fault Refusal :=
  workOn (fun | .endLockdown a => some (endLockdown a) | _ => none) s

/-- CLEAR PULL (R79). -/
def clearPull (d : Nat) (s : State) : Ending :=
  if !(s.door d).pull then .completes s .kept []
  else if (s.door d).pullOperated then .completes s .refusedState []
  else .completes (s.onDoor d (fun x => { x with pull := false })) .ok []

/-- CLEAR_PULL (R79). -/
def execClearPull (s : State) : Host.Outcome State Fault Refusal :=
  workOn (fun | .clearPull d => some (clearPull d) | _ => none) s

/-- ISOLATE DOOR (R80). -/
def isolateDoor (d : Nat) (s : State) : Ending :=
  if (s.door d).isolated then .completes s .kept []
  else .completes (s.onDoor d (fun x => { x.clearMarks.clearFilters with isolated := true })) .ok []

/-- ISOLATE_DOOR (R80). -/
def execIsolateDoor (s : State) : Host.Outcome State Fault Refusal :=
  workOn (fun | .isolateDoor d => some (isolateDoor d) | _ => none) s

/-- A door returned to service: settled at once from the device record where its device is OK, due to settle otherwise (R81). -/
def Door.restored (reachable : Bool) (q : DoorInputs) (x : Door) : Door :=
  if reachable then { x with isolated := false }.settleOn q else { x with isolated := false, settle := true }

/-- RESTORE DOOR (R81): the output is handed; one equal to the value the loop controller holds alters nothing (R50). -/
def restoreDoor (d : Nat) (s : State) : Ending :=
  if !(s.door d).isolated then .completes s .kept []
  else
    .completes
      (s.decideDoor d (Door.restored (s.doorReachable d) (doorInputs (s.device (s.plan.doorDevice d)).value)) true) .ok []

/-- RESTORE_DOOR (R81). -/
def execRestoreDoor (s : State) : Host.Outcome State Fault Refusal :=
  workOn (fun | .restoreDoor d => some (restoreDoor d) | _ => none) s

/-! ### Activation (R83) -/

/-- The door's check count, kind or device changes with the plan. -/
def doorChangedBy (old p : PlanBank) (d : Nat) : Bool :=
  old.checkCount d ≠ p.checkCount d || old.doorKind d ≠ p.doorKind d || old.doorDevice d ≠ p.doorDevice d

/-- A door that remains planned (R83); one that becomes UNKNOWN loses its filter candidates (R58). -/
def Door.takeUp (old p : PlanBank) (d : Nat) (reachable : Bool) (x : Door) : Door :=
  let x := if p.doorKind d = some .strong then { x with evac := false, keys := false } else x
  let x := if p.doorKind d = some .fire then { x with lockdown := false } else x
  let x := if doorChangedBy old p d then { x.clearMarks with settle := true } else x
  if reachable then x else x.clearFilters

/-- A door alert on its way to CU: its door, reason and level (R71). -/
structure DoorAlert where
  door : Nat
  reason : Reason
  level : Nat
deriving DecidableEq, Repr

/-- DU's work at an activation, with the door alerts it has sent, oldest first: they arrive at CU as events of their own, after the announcement
(R154). -/
structure TakingUp where
  state : State
  alerts : List DoorAlert

/-- DU changes a planned door and decides it, keeping its alert back. -/
def TakingUp.move (d : Nat) (f : Door → Door) (force : Bool) (q : TakingUp) : TakingUp :=
  { state := q.state.moveDoor d f force
    alerts := q.alerts ++ ((q.state.dueAlert d f).map (fun a => { door := d, reason := a.1, level := a.2 })).toList }

/-- A hold or close timer whose new limit has already passed expires at once (R83). -/
def TakingUp.expire (d : Nat) (q : TakingUp) : TakingUp :=
  let q := if q.state.holdRunOut d then q.move d Door.holdExpires false else q
  if q.state.closeRunOut d then q.move d Door.closeExpires false else q

/-- One door takes up the new plan, which is already the active one (R83). DESIGN CHOICE, log entry 60: a door that remains planned is decided under its new
regime and outputs before its running timers are compared with the new limits, so a timer whose condition ceases stops and does not expire. -/
def TakingUp.door (old : PlanBank) (q : TakingUp) (d : Nat) : TakingUp :=
  let s := q.state
  if s.plan.doorPlanned d then
    if old.doorPlanned d then
      (q.move d (Door.takeUp old s.plan d (s.doorReachable d)) (!(s.door d).isolated && old.doorDevice d ≠ s.plan.doorDevice d)).expire d
    else q.move d (fun _ => { Door.zero with settle := true }) true
  else
    let s' := s.setDoor d (fun _ => .zero)
    { q with state := if (s.door d).cond = .none then s' else s'.tellDoor d .none }

/-- The loop controllers discard the outputs they held for the devices of removed doors (R83); a device that is no DOOR any more was cleared by
R55. DESIGN CHOICE, log entry 59: a device that remains a planned DOOR loses its output too, where R55 has it keep what it holds. -/
def State.discardOutputs (old : PlanBank) (s : State) : State :=
  let gone := (PlanBank.doorNumbers.filter (fun d => old.doorPlanned d && !s.plan.doorPlanned d)).map old.doorDevice
  s.onLc (fun lc =>
    { lc with
      devices := lc.devices.map (fun i x =>
        if gone.contains i && s.plan.deviceKind i = some .door then { x with output := none, handed := none } else x) })

/-- DU takes up the new plan, door by door (R83); the release keys follow (log entry 37). -/
def State.doorsTakeUp (old : PlanBank) (s : State) : TakingUp :=
  PlanBank.doorNumbers.foldl (TakingUp.door old) { state := s.discardOutputs old, alerts := [] }

/-- CU takes door alerts one after another, each an event of its own (R154). -/
def State.takeAlerts (as : List DoorAlert) (s : State) : State :=
  as.foldl (fun t a => t.showCalls (t.alert a.door a.reason a.level)) s

end Sys2Proof.Machine
end

