-- ==== Sys2Proof/Machine/Zones.lean ====
section
/-!
DEFINITION. The zone and alarm unit: detectors and break-glass contacts, zone conditions, the site sequence, phases and sounders, regimes and
closing (R1 to R29, R132 to R138), and the meanings of its commands.
-/

namespace Sys2Proof.Machine

/-! ### Effective phases and sounders (R12, R25) -/

/-- A sounder's output by its zone's effective phase and the silenced mark (R25; codes in 09). -/
def sounderOutput (silenced : Bool) : Phase → BitVec 4
  | .none => 0
  | .alert => if silenced then 0 else 1
  | .evacuate => if silenced then 0 else 2

/-- ZA hands every planned sounder its output (R25); a value handed again alters nothing (R50). -/
def State.handSounders (s : State) : State :=
  PlanBank.deviceNumbers.foldl (fun s i =>
    if s.plan.deviceKind i = some .sounder then
      s.onLc (Lc.hand i (sounderOutput s.za.silenced (s.zone (s.plan.deviceZone i)).phase))
    else s) s

/-- The effective phase ZA holds for a zone: only a planned zone is evaluated (R12). -/
def State.phaseNow (s : State) (z : Nat) : Phase := if s.plan.zonePlanned z then s.effectivePhase z else .none

/-- The messages for the zones whose effective phase has changed (R12). -/
def State.phaseMessages (s : State) : List ZaMessage :=
  PlanBank.zoneNumbers.filterMap (fun z => if s.phaseNow z = (s.zone z).phase then none else some (.phase z (s.phaseNow z)))

/-- ZA evaluates every effective phase again, tells RL of each change and hands the sounders; DU decides the doors again (R12, R64).
Done once for the areas that one rule moves together: DESIGN CHOICE, log entry 14. -/
def State.evalPhases (s : State) : State :=
  (((s.onZa (fun za => { za with zones := za.zones.map (fun z x => { x with phase := s.phaseNow z }) })).tellRl
    s.phaseMessages).handSounders).refreshDoors

/-! ### Going to GENERAL (R16 to R18) -/

/-- An area goes to EVACUATE, and its phase timer stops (R17, R20). -/
def Area.evacuate (x : Area) : Area := { x with phase := .evacuate, phaseEnd := none }

/-- A neighbour of the area that evacuates (R17). -/
def Area.bringIn (interval now : Nat) (x : Area) : Area :=
  match x.phase with
  | .none => if interval = 0 then x.evacuate else { x with phase := .alert, phaseEnd := some (now + interval) }
  | .alert => x
  | .evacuate => x

/-- The areas round zone z act (R17). -/
def State.areasRound (z : Nat) (s : State) : State :=
  match s.plan.innermost z with
  | none => s
  | some a =>
    (s.plan.neighbours a).foldl (fun s b => s.setArea b (Area.bringIn (s.plan.phaseInterval b) s.now)) (s.setArea a Area.evacuate)

/-- The sequence becomes GENERAL; on entry the site timer is stopped and the silenced mark is clear (R16, R17). -/
def State.enterGeneral (s : State) : State :=
  s.onZa (fun za =>
    { za with seq := .general, siteEnd := none, silenced := if za.seq = .general then za.silenced else false })

/-- ZA goes to GENERAL for a zone (R17). -/
def State.goGeneral (z : Nat) (s : State) : State := (s.enterGeneral.areasRound z).evalPhases

/-- The sequence is INVESTIGATE, in either sub-state. -/
def SiteSeq.investigating : SiteSeq → Bool
  | .awaitAck => true
  | .searching => true
  | _ => false

/-- An investigation ends in GENERAL (R16): the trigger zone's cause DETECTOR becomes ESCALATED (R6), and ZA goes to GENERAL for it. -/
def State.endInvestigation (s : State) : State :=
  if s.za.seq.investigating then
    match s.za.first.head? with
    | none => s.enterGeneral
    | some z => (s.setZone z (fun x => { x with cause := if x.cause = .detector then .escalated else x.cause })).goGeneral z
  else s

/-! ### Zones in ALARM (R5 to R7, R14, R18) -/

/-- A planned detector or break-glass contact of zone z. -/
def State.decides (s : State) (k : DeviceKind) (z i : Nat) : Bool :=
  s.plan.deviceKind i = some k && s.plan.deviceZone i = z

/-- How many devices of a kind in zone z show a state. -/
def State.countState (s : State) (k : DeviceKind) (st : DetState) (z : Nat) : Nat :=
  (PlanBank.deviceNumbers.filter (fun i => (s.detector i).state = st && s.decides k z i)).length

/-- R5: the condition and the cause that the states of its devices give a zone. -/
def State.verdict (s : State) (z : Nat) : ZoneCond × Cause :=
  let n := s.countState .detector .alarm z
  if 1 ≤ s.countState .breakglass .alarm z then (.alarm, .manual)
  else if 2 ≤ n ∧ s.coincidence z then (.alarm, .coincident)
  else if 1 ≤ n ∧ !s.coincidence z then (.alarm, .detector)
  else if n = 1 ∧ s.coincidence z then (.warn, .none)
  else if 1 ≤ s.countState .detector .warn z then (.warn, .none)
  else (.quiet, .none)

/-- The four conditions under which a new alarm is investigated (R14). -/
def State.investigates (s : State) (z : Nat) (cause : Cause) : Bool :=
  cause = .detector && s.regimeOf z = .day && s.plan.investigationAllowed z && s.xp.attach = .attached

/-- The site sequence is applied to a new alarm of zone z (R14, R16, R18). -/
def State.applySequence (z : Nat) (cause : Cause) (s : State) : State :=
  match s.za.seq with
  | .calm =>
    if s.investigates z cause then
      s.onZa (fun za => { za with seq := .awaitAck, siteEnd := some (s.now + s.plan.tAck) })
    else s.goGeneral z
  | .awaitAck => s.endInvestigation.goGeneral z
  | .searching => s.endInvestigation.goGeneral z
  | .general => (s.onZa (fun za => { za with silenced := false })).goGeneral z

/-- A zone enters ALARM (R7). -/
def State.enterAlarm (z : Nat) (cause : Cause) (s : State) : State :=
  let entered := s.setZone z (fun x =>
    { x with cond := .alarm, cause := cause, detCount := s.countState .detector .alarm z, entry := s.now })
  (((entered.onZa (fun za => { za with first := za.first ++ [z] })).tellRl [.alarm z true]).refreshDoors).applySequence z cause

/-- ZA evaluates a zone that is QUIET or WARN (R5). -/
def State.evalZone (z : Nat) (s : State) : State :=
  if (s.zone z).cond = .quiet ∨ (s.zone z).cond = .warn then
    if (s.verdict z).1 = .alarm then s.enterAlarm z (s.verdict z).2
    else s.setZone z (fun x => { x with cond := (s.verdict z).1 })
  else s

/-- What a change of state of one of a zone's devices was: a break-glass contact or a detector entering ALARM, or any other. -/
inductive DeviceEvent where
  | breakglass
  | detector
  | other
deriving DecidableEq, Repr

/-- The cause after an event in a zone in ALARM (R6). -/
def Cause.after (e : DeviceEvent) (coincident : Bool) (c : Cause) : Cause :=
  match e with
  | .breakglass => if c = .detector ∨ c = .escalated ∨ c = .coincident then .manual else c
  | .detector => if (c = .detector ∨ c = .escalated) ∧ coincident then .coincident else c
  | .other => c

/-- A device of a zone in ALARM has changed state: the count and the cause follow, and the trigger zone's cause becoming MANUAL or COINCIDENT
ends its investigation (R6, R16). A detector entering ALARM gives COINCIDENT whenever two or more of the zone are then in ALARM while coincidence is
on, the second or a later one (log entry 40). -/
def State.updateAlarm (z : Nat) (e : DeviceEvent) (s : State) : State :=
  let n := s.countState .detector .alarm z
  let cause := (s.zone z).cause.after e (2 ≤ n && s.coincidence z)
  let s' := s.setZone z (fun x => { x with detCount := n, cause := cause })
  if cause ≠ (s.zone z).cause ∧ s.za.first.head? = some z then s'.endInvestigation else s'

/-- What follows in zone z from a device of it that was decided: R5 in a QUIET or WARN zone, R6 in a zone in ALARM. -/
def State.zoneFollows (z : Nat) (e : DeviceEvent) (changed : Bool) (s : State) : State :=
  if (s.zone z).cond = .alarm then (if changed then s.updateAlarm z e else s) else s.evalZone z

/-! ### Detectors and break-glass contacts (R1 to R4, R10) -/

/-- The alarm threshold in force for a detector (R1). -/
def State.alarmThreshold (s : State) (i : Nat) : Nat :=
  if s.regimeOf (s.plan.deviceZone i) = .day then s.plan.dayThreshold i else s.plan.nightThreshold i

/-- R2: the counter and state after a reading; `may` says that an ALARM entered now is latched. -/
def Detector.reading (warn alarm confirm level : Nat) (may : Bool) (x : Detector) : Detector :=
  if x.state = .alarm ∧ x.latched then x
  else if alarm ≤ level then
    (if x.state = .alarm then { x with confirm := confirm }
     else if confirm ≤ x.confirm + 1 then { x with state := .alarm, confirm := confirm, latched := may }
     else { x with state := .warn, confirm := x.confirm + 1 })
  else if warn ≤ level then { x with state := .warn, confirm := 0 }
  else { x with state := .normal, confirm := 0 }

/-- R4: the state after a contact's answer. -/
def Detector.contact (operated may : Bool) (x : Detector) : Detector :=
  if operated then { x with state := .alarm, latched := x.latched || may }
  else if x.latched then x
  else { x with state := .normal }

/-- A zone in which alarms are latched: neither TEST nor ISOLATED (R2, R4). -/
def ZoneCond.latches : ZoneCond → Bool
  | .test => false
  | .isolated => false
  | _ => true

/-- A device of a TEST zone enters ALARM: its test hit mark and the zone's test count (R10). -/
def State.testHit (i z : Nat) (s : State) : State :=
  if (s.zone z).cond = .test then
    (s.setDetector i (fun x => { x with testHit := true })).setZone z (fun x => { x with testCount := count255 x.testCount })
  else s

/-- ZA takes an answer of a detector or break-glass contact, which has been decided as y (R2, R4, R5, R6, R10). -/
def State.decided (i : Nat) (y : Detector) (e : DeviceEvent) (s : State) : State :=
  let x := s.detector i
  let z := s.plan.deviceZone i
  let entered := x.state ≠ .alarm && y.state = .alarm
  let s' := s.setDetector i (fun _ => y)
  (if entered then s'.testHit i z else s').zoneFollows z (if entered then e else .other) (x.state ≠ y.state)

/-- ZA takes a DETECTOR answer (R1, R2). -/
def State.detectorAnswer (i : Nat) (value : Half) (s : State) : State :=
  s.decided i
    ((s.detector i).reading (s.plan.warnThreshold i) (s.alarmThreshold i) (s.plan.confirmCount i) (value.toNat % 256)
      (s.zone (s.plan.deviceZone i)).cond.latches) .detector

/-- ZA takes a BREAKGLASS answer (R4). -/
def State.contactAnswer (i : Nat) (value : Half) (s : State) : State :=
  s.decided i ((s.detector i).contact (value.getLsbD 0) (s.zone (s.plan.deviceZone i)).cond.latches) .breakglass

/-- A decision that stands still: the counter 0, a state that is not latched NORMAL (R3). -/
def Detector.still (x : Detector) : Detector := { x with confirm := 0, state := if x.latched then x.state else .normal }

/-- A detector or break-glass contact has left OK, or ISOLATED for WAITING (R3, R4). -/
def State.detectorLost (i : Nat) (s : State) : State :=
  let y := (s.detector i).still
  let s' := s.setDetector i (fun _ => y)
  if y.state = (s.detector i).state then s' else s'.zoneFollows (s.plan.deviceZone i) .other true

/-! ### Zone orders (R9 to R11) -/

/-- ISOLATE ZONE (R9). -/
def isolateZone (z : Nat) (s : State) : Ending :=
  match (s.zone z).cond with
  | .alarm => .completes s .refusedState []
  | .isolated => .completes s .kept []
  | _ => .completes (s.setZone z (fun x => { x with cond := .isolated })) .ok []

/-- ISOLATE_ZONE (R9). -/
def execIsolateZone (s : State) : Host.Outcome State Fault Refusal :=
  workOn (fun | .isolateZone z => some (isolateZone z) | _ => none) s

/-- The test hit marks of a zone's devices cleared (R10). -/
def State.clearHits (z : Nat) (s : State) : State :=
  s.onZa (fun za =>
    { za with
      detectors := za.detectors.map (fun i x =>
        if x.testHit && (s.decides .detector z i || s.decides .breakglass z i) then { x with testHit := false } else x) })

/-- TEST ZONE (R10). -/
def testZone (z : Nat) (s : State) : Ending :=
  match (s.zone z).cond with
  | .alarm => .completes s .refusedState []
  | .test => .completes s .kept []
  | _ => .completes ((s.setZone z (fun x => { x with cond := .test, testCount := 0 })).clearHits z) .ok []

/-- TEST_ZONE (R10). -/
def execTestZone (s : State) : Host.Outcome State Fault Refusal :=
  workOn (fun | .testZone z => some (testZone z) | _ => none) s

/-- Every detector and break-glass contact of the zone that is in ALARM is latched (R11). -/
def State.latchZone (z : Nat) (s : State) : State :=
  s.onZa (fun za =>
    { za with
      detectors := za.detectors.map (fun i x =>
        if x.state = .alarm && (s.decides .detector z i || s.decides .breakglass z i) then { x with latched := true } else x) })

/-- RESTORE ZONE (R11). -/
def restoreZone (z : Nat) (s : State) : Ending :=
  if (s.zone z).cond = .isolated ∨ (s.zone z).cond = .test then
    .completes (((s.latchZone z).setZone z (fun x => { x with cond := .quiet })).evalZone z) .ok []
  else .completes s .kept []

/-- RESTORE_ZONE (R11). -/
def execRestoreZone (s : State) : Host.Outcome State Fault Refusal :=
  workOn (fun | .restoreZone z => some (restoreZone z) | _ => none) s

/-! ### The site sequence's timers and orders (R15, R16, R19, R20, R22, R23) -/

/-- ACKNOWLEDGE (R15). -/
def acknowledge (s : State) : Ending :=
  match s.za.seq with
  | .awaitAck =>
    .completes (s.onZa (fun za => { za with seq := .searching, siteEnd := some (s.now + s.plan.tSearch) })) .ok []
  | .searching => .completes s .kept []
  | .calm => .completes s .refusedState []
  | .general => .completes s .refusedState []

/-- ACKNOWLEDGE (R15). -/
def execAcknowledge (s : State) : Host.Outcome State Fault Refusal :=
  workOn (fun | .acknowledge => some acknowledge | _ => none) s

/-- SILENCE (R22). -/
def silence (s : State) : Ending :=
  if s.za.seq = .general ∧ !s.za.silenced then
    .completes (s.onZa (fun za => { za with silenced := true })).handSounders .ok []
  else .completes s .kept []

/-- SILENCE (R22). -/
def execSilence (s : State) : Host.Outcome State Fault Refusal :=
  workOn (fun | .silence => some silence | _ => none) s

/-- RESOUND (R23). -/
def resound (s : State) : Ending :=
  if s.za.seq = .general ∧ s.za.silenced then
    .completes (s.onZa (fun za => { za with silenced := false })).handSounders .ok []
  else .completes s .kept []

/-- RESOUND (R23). -/
def execResound (s : State) : Host.Outcome State Fault Refusal :=
  workOn (fun | .resound => some resound | _ => none) s

/-- T_ACK_EXPIRY (R16). -/
def execTAckExpiry (s : State) : Host.Outcome State Fault Refusal :=
  if s.za.seq = .awaitAck ∧ expired s.za.siteEnd s.now then done s s.endInvestigation else nothing s

/-- T_SEARCH_EXPIRY (R16). -/
def execTSearchExpiry (s : State) : Host.Outcome State Fault Refusal :=
  if s.za.seq = .searching ∧ expired s.za.siteEnd s.now then done s s.endInvestigation else nothing s

/-- PHASE_TIMER_EXPIRY (R19). -/
def execPhaseTimerExpiry (a : Nat) (s : State) : Host.Outcome State Fault Refusal :=
  if (s.area a).phase = .alert ∧ expired (s.area a).phaseEnd s.now then done s (s.setArea a Area.evacuate).evalPhases
  else nothing s

/-- The areas that EVACUATE names: the area given, or area 0 and every other planned area (R20). -/
def State.namedAreas (s : State) : Option Nat → List Nat
  | some a => [a]
  | none => PlanBank.areaNumbers.filter s.plan.areaPlanned

/-- Areas go to EVACUATE; one already there is left as it is (R20, R21). -/
def State.evacuateAreas (as : List Nat) (s : State) : State := as.foldl (fun s a => s.setArea a Area.evacuate) s

/-- Some of the areas is not in EVACUATE. -/
def State.someToMove (s : State) (as : List Nat) : Bool := as.any (fun a => (s.area a).phase ≠ .evacuate)

/-- EVACUATE's three steps (R20). -/
def State.evacuateOrder (as : List Nat) (s : State) : State :=
  let s1 := s.endInvestigation
  let s2 := (s1.evacuateAreas as).enterGeneral
  (if s1.someToMove as then s2.onZa (fun za => { za with silenced := false }) else s2).evalPhases

/-- EVACUATE (R20). -/
def evacuate (area : Option Nat) (s : State) : Ending :=
  if s.za.seq = .general ∧ !s.someToMove (s.namedAreas area) then .completes s .kept []
  else .completes (s.evacuateOrder (s.namedAreas area)) .ok []

/-- EVACUATE (R20). -/
def execEvacuate (s : State) : Host.Outcome State Fault Refusal :=
  workOn (fun | .evacuate area => some (evacuate area) | _ => none) s

/-! ### The release keys, as DU tells of them (R21) -/

/-- The release key set has become held (R21). -/
def State.keysBecomeHeld (s : State) : State :=
  (((s.endInvestigation.enterGeneral).evacuateAreas (s.namedAreas none)).onZa (fun za =>
    { za with keysHeld := true, silenced := false })).evalPhases

/-- The release key set has stopped being held (R21). -/
def State.keysCease (s : State) : State := s.onZa (fun za => { za with keysHeld := false })

/-! ### RESET SITE (R24) -/

/-- A planned detector or break-glass contact is latched. -/
def State.someLatch (s : State) : Bool := PlanBank.deviceNumbers.any (fun i => (s.detector i).latched)

/-- What a detector or break-glass contact shows after RESET SITE (R24). -/
def State.resetDetector (s : State) (i : Nat) (x : Detector) : Detector :=
  let level := (s.device i).value.toNat % 256
  { x with
    latched := false
    confirm := 0
    state :=
      if (s.device i).cond = .ok ∧ s.plan.deviceKind i = some .detector
          ∧ (s.alarmThreshold i ≤ level ∨ s.plan.warnThreshold i ≤ level) then .warn
      else .normal }

/-- A zone after RESET SITE, its devices' states being those of s (R24). -/
def State.resetZone (s : State) (z : Nat) (x : Zone) : Zone :=
  match x.cond with
  | .alarm => { x with cond := (s.verdict z).1, cause := .none, detCount := 0, entry := 0 }
  | .quiet => { x with cond := (s.verdict z).1 }
  | .warn => { x with cond := (s.verdict z).1 }
  | _ => x

/-- The messages of the zones that leave ALARM. -/
def State.leavingAlarm (s : State) : List ZaMessage :=
  (PlanBank.zoneNumbers.filter (fun z => (s.zone z).cond = .alarm)).map (fun z => .alarm z false)

/-- DU removes every KEYS claim (R74); the doors are decided again with the change of phases. -/
def State.removeKeys (s : State) : State :=
  s.onDu (fun du => { du with doors := du.doors.map (fun _ x => { x with keys := false }) })

/-- The latches, counters and states of every detector and break-glass contact after RESET SITE (R24). -/
def State.resetDetectors (s : State) : State := s.onZa (fun za => { za with detectors := za.detectors.map s.resetDetector })

/-- The zones, first-alarm list, phases, timers, marks and sequence after RESET SITE, its detectors being reset (R24). -/
def State.resetAlarms (s : State) : State :=
  s.onZa (fun za =>
    { za with
      zones := za.zones.map s.resetZone
      first := []
      areas := za.areas.map (fun _ x => { x with phase := .none, phaseEnd := none })
      siteEnd := none
      silenced := false
      seq := .calm })

/-- RESET SITE's work (R24): ZA's records, the messages, the KEYS claims, NOTICE.SITE, and the report to PS. The messages of zones that leave ALARM go
out before those of effective phases, an order the rule leaves open (log entry 14). -/
def State.resetSite (s : State) : State :=
  let s1 := ((((s.resetDetectors.resetAlarms).tellRl s.leavingAlarm).removeKeys).evalPhases).raise true 1
  if s.za.seq = .calm then s1 else s1.onPs (fun ps => { ps with calmReports := ps.calmReports + 1 })

/-- RESET SITE (R24). -/
def resetSite (s : State) : Ending :=
  if s.za.keysHeld then .completes s .refusedState []
  else if s.za.seq = .calm ∧ !s.someLatch then .completes s .kept []
  else .completes s.resetSite .ok []

/-- RESET_SITE (R24). -/
def execResetSite (s : State) : Host.Outcome State Fault Refusal :=
  workOn (fun | .resetSite => some resetSite | _ => none) s

/-! ### Regimes and closing (R133 to R136) -/

/-- The planned doors of a zone, ascending. -/
def PlanBank.doorsOf (p : PlanBank) (z : Nat) : List Nat := doorNumbers.filter (fun d => p.doorPlanned d && p.doorZone d = z)

/-- The zones whose innermost area is a, ascending. -/
def PlanBank.zonesOf (p : PlanBank) (a : Nat) : List Nat := zoneNumbers.filter (fun z => p.innermost z = some a)

/-- ZA tells DU of zone z's new regime r: DU decides the zone's doors again, and the trigger zone becoming NIGHT ends its investigation (R134). -/
def State.regimeTold (r : Regime) (s : State) (z : Nat) : State :=
  let s1 := (s.plan.doorsOf z).foldl State.refreshDoor s
  if r = .night ∧ s.za.first.head? = some z then s1.endInvestigation else s1

/-- The regime of planned area a becomes r: the area record is rewritten, and each zone whose innermost area it is takes the regime, in ascending
zone number (R134). -/
def State.changeRegime (a : Nat) (r : Regime) (closingEnd : Option Nat) (s : State) : State :=
  (s.plan.zonesOf a).foldl (State.regimeTold r)
    ((s.setArea a (fun x => { x with regime := r, closingEnd := closingEnd })).rewrite (fun k => k = areaRecord a))

/-- The closing condition of an area (R135). -/
def State.closingHolds (s : State) (a : Nat) : Bool :=
  PlanBank.doorNumbers.all (fun d =>
    !(s.plan.publicOrStaff d && s.plan.inArea a (s.plan.doorZone d)) || s.za.doorCond.get d = .secure)

/-- ZA checks the closing condition of an area in CLOSING (R135). -/
def State.checkClosing (s : State) (a : Nat) : State :=
  if s.plan.areaPlanned a && (s.area a).regime = .closing && s.closingHolds a then s.changeRegime a .night none else s

/-- The areas SET REGIME concerns: the named area and its planned descendants (R133). -/
def State.concerned (s : State) (a : Nat) : List Nat :=
  PlanBank.areaNumbers.filter (fun b => s.plan.areaPlanned b && s.plan.isWithin a b)

/-- The areas whose regime SET REGIME changes: to DAY those in CLOSING or NIGHT, to NIGHT those in DAY (R133). -/
def State.toChange (s : State) (a : Nat) (night : Bool) : List Nat :=
  (s.concerned a).filter (fun b => if night then (s.area b).regime = .day else (s.area b).regime ≠ .day)

/-- SET REGIME's work (R133): each area in turn, then the closing condition of those that entered CLOSING. -/
def State.setRegimes (a : Nat) (night : Bool) (s : State) : State :=
  let bs := s.toChange a night
  let s1 := bs.foldl (fun t b =>
    if night then t.changeRegime b .closing (some (s.now + s.plan.closingTimeout a)) else t.changeRegime b .day none) s
  if night then bs.foldl State.checkClosing s1 else s1

/-- SET REGIME (R133). -/
def setRegime (a : Nat) (night : Bool) (s : State) : Ending :=
  .completes (s.setRegimes a night) (if (s.toChange a night).isEmpty then .kept else .ok) [wordOf (s.toChange a night).length]

/-- SET_REGIME (R133). -/
def execSetRegime (s : State) : Host.Outcome State Fault Refusal :=
  workOn (fun | .setRegime a night => some (setRegime a night) | _ => none) s

/-- CLOSING_TIMER_EXPIRY (R136). -/
def execClosingTimerExpiry (a : Nat) (s : State) : Host.Outcome State Fault Refusal :=
  if (s.area a).regime = .closing ∧ expired (s.area a).closingEnd s.now then
    done s ((s.leftOpen a).changeRegime a .night none)
  else nothing s

/-- ZA takes DU's message of a change of condition of a PUBLIC or STAFF door, and checks the closing areas that contain it (R135). -/
def State.closingMessage (d : Nat) (c : DoorCond) (s : State) : State :=
  if s.plan.publicOrStaff d then
    (PlanBank.areaNumbers.filter (fun a => s.plan.inArea a (s.plan.doorZone d))).foldl State.checkClosing
      (s.onZa (fun za => { za with doorCond := za.doorCond.set d c }))
  else s

/-! ### Activation (R29, R138) -/

/-- A zone taking up the new plan (R29). -/
def Zone.takeUp (old p : PlanBank) (z : Nat) (x : Zone) : Zone :=
  if p.zonePlanned z then (if old.zonePlanned z then x else { Zone.zero with cond := .quiet }) else .zero

/-- An area taking up the new plan: every phase NONE; a regime kept only where the area remains planned (R29, R138). -/
def Area.takeUp (old p : PlanBank) (a : Nat) (x : Area) : Area :=
  if old.areaPlanned a && p.areaPlanned a then { x with phase := .none, phaseEnd := none } else .zero

/-- A detector or break-glass contact taking up the new plan (R29). -/
def Detector.takeUp (old p : PlanBank) (i : Nat) (x : Detector) : Detector :=
  if (p.deviceKind i = some .detector ∨ p.deviceKind i = some .breakglass) ∧ old.deviceKind i = p.deviceKind i then
    { x with confirm := 0 }
  else .zero

/-- ZA takes up the new plan, which is already the active one (R29). -/
def State.zonesTakeUp (old : PlanBank) (s : State) : State :=
  (s.onZa (fun za =>
    { za with
      zones := za.zones.map (Zone.takeUp old s.plan)
      areas := za.areas.map (Area.takeUp old s.plan)
      detectors := za.detectors.map (Detector.takeUp old s.plan) })).handSounders

/-- ZA checks the closing condition of every area over its new range, with the door conditions DU then holds (R138; log entry 11). -/
def State.closingTakeUp (s : State) : State :=
  PlanBank.areaNumbers.foldl State.checkClosing
    (s.onZa (fun za =>
      { za with doorCond := za.doorCond.map (fun d _ => if s.plan.publicOrStaff d then (s.door d).cond else .none) }))

end Sys2Proof.Machine
end

