-- ==== Sys2Proof/Machine/Keys.lean ====
section
/-!
DEFINITION. The release keys: their filters, the release key set, KEYS claims and the release broadcast (R73 to R75), and the meanings of their
commands. The 200 ms of a filter are not measured (log entry 39): a filter runs while an input differs from the accepted state, and its end is a command.
-/

namespace Sys2Proof.Machine

/-- Key k belongs to the release key set: K1 and K2 before any plan is active, the plan's set afterwards (R73, R82). -/
def State.inKeySet (s : State) (k : Nat) : Bool := if s.ps.active.isNone then k ≤ 2 else s.plan.keyInSet k

/-- Every key of the set is accepted OPERATED (R73). -/
def State.keySetOperated (s : State) : Bool := [1, 2, 3, 4].all (fun k => !s.inKeySet k || s.du.keyAccepted.get k)

/-- The planned doors that the set becoming held gives a KEYS claim (R74). -/
def State.keyDoors (s : State) : List Nat :=
  PlanBank.doorNumbers.filter (fun d => s.plan.doorPlanned d && s.plan.doorKind d ≠ some .strong)

/-- R74: KEYS claims on every planned door that is not STRONG, then ZA is told. -/
def State.keysFree (s : State) : State := (s.onDoors s.keyDoors (fun x => { x with keys := true })).keysBecomeHeld

/-- DU asks every loop controller for the release broadcast, due at once, or withdraws the request (R36, R75). -/
def State.askBroadcast (on : Bool) (s : State) : State :=
  (s.onDu (fun du => { du with broadcast := on })).onLc (fun lc =>
    { lc with loops := lc.loops.map (fun _ x => { x with broadcastAt := if on then some s.now else none }) })

/-- The set has become held: R74 while a plan is active, R75 otherwise. -/
def State.setBecomesHeld (s : State) : State :=
  let s := s.onDu (fun du => { du with setHeld := true })
  if s.ps.active.isNone then s.askBroadcast true else s.keysFree

/-- The set has ceased to be held: R74 while a plan is active, R75 otherwise. -/
def State.setCeases (s : State) : State :=
  let s := s.onDu (fun du => { du with setHeld := false })
  if s.ps.active.isNone then s.askBroadcast false else s.keysCease

/-- DU decides whether the set is held (R73). -/
def State.decideKeySet (s : State) : State :=
  if s.keySetOperated then (if s.du.setHeld then s else s.setBecomesHeld)
  else if s.du.setHeld then s.setCeases else s

/-- KEY_INPUT_CHANGE (R73): the pin changes; its filter starts, or is discarded when the input returns. -/
def execKeyInputChange (k : Nat) (operated : Bool) (s : State) : Host.Outcome State Fault Refusal :=
  done s (s.onDu (fun du => { du with keyInput := du.keyInput.set k operated }))

/-- KEY_FILTER_EXPIRY (R73): the accepted state takes the input's value. -/
def execKeyFilterExpiry (k : Nat) (s : State) : Host.Outcome State Fault Refusal :=
  if s.du.keyInput.get k = s.du.keyAccepted.get k then nothing s
  else done s (s.onDu (fun du => { du with keyAccepted := du.keyAccepted.set k (du.keyInput.get k) })).decideKeySet

/-- The last step of R83: the request for the broadcast is withdrawn and the new set decided; a set held under the new plan acts by R74. -/
def State.keysTakeUp (s : State) : State :=
  let s := s.askBroadcast false
  if s.keySetOperated then (s.onDu (fun du => { du with setHeld := true })).keysFree
  else s.onDu (fun du => { du with setHeld := false })

end Sys2Proof.Machine
end

