-- ==== Sys2Proof/Machine/Routes.lean ====
section
/-!
DEFINITION. The route and lighting unit: usability and selection of routes, STRANDED zones, EVAC claims, signs, lighting circuits and their
tests (R107 to R131), and the meanings of its commands.
-/

namespace Sys2Proof.Machine

/-! ### Usability (R107, R108) -/

/-- A door condition that makes its routes unusable (R108). -/
def DoorCond.blocks : DoorCond → Bool
  | .unknown => true
  | .jammedShut => true
  | .isolated => true
  | _ => false

/-- The first thing that makes a planned route unusable: the bar, a traversed zone in ALARM, the exit door, a via door (R108). -/
def Rl.blockOf (p : PlanBank) (rl : Rl) (r : Nat) (x : Route) : BlockCause :=
  if x.bar then .barred
  else
    match (p.traversed r).find? (fun z => (rl.zones.get z).alarm) with
    | some z => .zone z
    | none =>
      match (p.routeDoors r).find? (fun d => (rl.doorCond.get d).blocks) with
      | some d => .door d
      | none => .none

/-- R108, for one planned route. -/
def Rl.judge (p : PlanBank) (rl : Rl) (r : Nat) (x : Route) : Route :=
  { x with cause := rl.blockOf p r x, usable := rl.blockOf p r x = .none }

/-- Step 1 of R113: the concerned routes are evaluated. -/
def Rl.judgeRoutes (p : PlanBank) (concerned : Nat → Bool) (rl : Rl) : Rl :=
  { rl with routes := rl.routes.map (fun r x => if p.routePlanned r && concerned r then rl.judge p r x else x) }

/-! ### Selection (R111, R112) -/

/-- The first usable route of a list. -/
def Rl.firstUsable (rl : Rl) (prefs : List Nat) : Option Nat := prefs.find? (fun r => (rl.routes.get r).usable)

/-- At once, the first usable route; REFUGE when none is usable; NONE when the list is empty (R111). -/
def Rl.selectAfresh (rl : Rl) (prefs : List Nat) (x : RouteZone) : RouteZone :=
  { x with
    candidate := none
    holdEnd := none
    selection :=
      if prefs.isEmpty then .none
      else
        match rl.firstUsable prefs with
        | some f => .route f
        | none => .refuge }

/-- The present selection is a usable route of the list: the return hold decides (R112). -/
def Rl.holdOff (hold now : Nat) (rl : Rl) (prefs : List Nat) (r : Nat) (x : RouteZone) : RouteZone :=
  match rl.firstUsable prefs with
  | none => x
  | some f =>
    if f = r then { x with candidate := none, holdEnd := none }
    else if x.candidate = some f then x
    else { x with candidate := some f, holdEnd := some (now + hold) }

/-- R111, for one planned zone. -/
def Rl.select (p : PlanBank) (now : Nat) (rl : Rl) (z : Nat) (x : RouteZone) : RouteZone :=
  match x.selection with
  | .route r =>
    if (p.preferences z).contains r && (rl.routes.get r).usable then rl.holdOff p.returnHold now (p.preferences z) r x
    else rl.selectAfresh (p.preferences z) x
  | .none => rl.selectAfresh (p.preferences z) x
  | .refuge => rl.selectAfresh (p.preferences z) x

/-- Step 2 of R113: the planned zones whose list names a route whose usable flag changed. -/
def Rl.selectZones (rl : Rl) (p : PlanBank) (now : Nat) (was : Rl) : Rl :=
  { rl with
    zones := rl.zones.map (fun z x =>
      if p.zonePlanned z && (p.preferences z).any (fun r => (was.routes.get r).usable ≠ (rl.routes.get r).usable) then
        rl.select p now z x
      else x) }

/-! ### STRANDED zones (R114) -/

/-- A zone is STRANDED while its effective phase is EVACUATE and its selection REFUGE (R114). -/
def RouteZone.isStranded (x : RouteZone) : Bool := x.phase = .evacuate && x.selection = .refuge

/-- RL sets or clears one zone's STRANDED mark and tells CU (R114). -/
def State.strandZone (s : State) (z : Nat) : State :=
  if (s.rl.zones.get z).stranded = (s.rl.zones.get z).isStranded then s
  else
    (s.onRl (fun rl => { rl with zones := rl.zones.modify z (fun x => { x with stranded := x.isStranded }) })).callsStranded z
      (s.rl.zones.get z).isStranded

/-- Step 3 of R113. -/
def State.strandZones (s : State) : State := PlanBank.zoneNumbers.foldl State.strandZone s

/-! ### EVAC claims (R115) -/

/-- Route r is in use: the selection of a zone whose effective phase is EVACUATE. -/
def Rl.inUse (rl : Rl) (r : Nat) : Bool :=
  PlanBank.zoneNumbers.any (fun z => (rl.zones.get z).phase = .evacuate && (rl.zones.get z).selection = .route r)

/-- The doors of the routes in use, ascending. -/
def Rl.doorsInUse (p : PlanBank) (rl : Rl) : List Nat :=
  PlanBank.doorNumbers.filter (fun d =>
    PlanBank.routeNumbers.any (fun r => rl.inUse r && p.routePlanned r && (p.routeDoors r).contains d))

/-- The requests that take DU from one set of claimed doors to another, in ascending door number (R115). -/
def claimRequests (old new : List Nat) : List (Nat × Bool) :=
  PlanBank.doorNumbers.filterMap (fun d =>
    if new.contains d && !old.contains d then some (d, true)
    else if old.contains d && !new.contains d then some (d, false)
    else none)

/-- Step 4 of R113. -/
def State.askClaims (s : State) : State :=
  (s.onMail (fun m => { m with rlOut := m.rlOut ++ claimRequests s.rl.claims (s.rl.doorsInUse s.plan) })).onRl (fun rl =>
    { rl with claims := rl.doorsInUse s.plan })

/-! ### Signs (R116, R117) -/

/-- The indication and flash of a planned sign (R116). -/
def Rl.signOf (p : PlanBank) (rl : Rl) (g : Nat) : Sign :=
  { indication :=
      if p.guardedZone g ≠ 0 && (rl.zones.get (p.guardedZone g)).alarm then .noEntry
      else
        match (rl.zones.get (p.guidedZone g)).selection with
        | .route r => (p.direction g r).getD .off
        | .refuge => .refuge
        | .none => .off
    flash := (rl.zones.get (p.guidedZone g)).phase = .evacuate }

/-- The output value of a sign: bits 2 to 0 the indication, bit 3 flashing (09). -/
def Sign.output (x : Sign) : BitVec 4 := BitVec.ofNat 4 (x.indication.code + flagAt x.flash 3)

/-- RL decides one planned sign and hands it, on change or because it must (R117). -/
def State.decideSign (must : Bool) (s : State) (g : Nat) : State :=
  if s.plan.signPlanned g && (must || s.rl.signs.get g ≠ s.rl.signOf s.plan g) then
    (s.onRl (fun rl => { rl with signs := rl.signs.set g (rl.signOf s.plan g) })).onLc
      (Lc.hand (s.plan.signDevice g) (s.rl.signOf s.plan g).output)
  else s

/-- Step 5 of R113. -/
def State.decideSigns (must : Bool) (s : State) : State := PlanBank.signNumbers.foldl (State.decideSign must) s

/-! ### Lighting circuits (R118 to R121) -/

/-- The battery reports a failure; what code 3 means is a free value (log entry 3). -/
def Battery.failed : Battery → Bool
  | .sound => false
  | .lampFail => true
  | .batteryFail => true
  | .unassigned v => !Config.unassignedBatteryIsSound v

/-- Circuit c is in the running test. -/
def Rl.inTest (rl : Rl) (c : Nat) : Bool :=
  match rl.test with
  | none => false
  | some t => t.circuits.contains c

/-- The running test is a duration test. -/
def Rl.durationRuns (rl : Rl) : Bool :=
  match rl.test with
  | none => false
  | some t => t.duration

/-- The state of a planned circuit (R119). -/
def Rl.stateOf (reachable : Bool) (now : Nat) (rl : Rl) (c : Nat) (x : Circuit) : CircuitState :=
  if !reachable then .unknown
  else if rl.inTest c then (if rl.durationRuns then .durationTest else .functionTest)
  else if x.battery.failed then .fault
  else if x.mainsAbsent then .onBattery
  else if now < x.recharge.getD 0 then .recharge
  else .normal

/-- The LAMP device of a circuit is OK. -/
def State.lampReachable (s : State) (c : Nat) : Bool := (s.device (s.plan.lampDevice c)).cond = .ok

/-- RL decides the states of the planned circuits an event concerns (R119). -/
def State.decideCircuits (who : Nat → Bool) (s : State) : State :=
  s.onRl (fun rl =>
    { rl with
      circuits := rl.circuits.map (fun c x =>
        if who c && s.plan.lampPlanned c then { x with state := rl.stateOf (s.lampReachable c) s.now c x } else x) })

/-- A zone in which the lamps are lit: in ALARM, or with an effective phase other than NONE (R121). -/
def Rl.litZone (rl : Rl) (z : Nat) : Bool := (rl.zones.get z).alarm || (rl.zones.get z).phase ≠ .none

/-- The output of a planned circuit: 0 REST, 1 LIGHT, 2 TEST (R121, 09). -/
def Rl.lampOutput (p : PlanBank) (rl : Rl) (c : Nat) : BitVec 4 :=
  if rl.inTest c then 2
  else if p.maintained c || (p.servedZones c).any rl.litZone then 1
  else 0

/-- RL hands every planned circuit its output; a value handed again alters nothing (R50, R121). -/
def State.handLamps (s : State) : State :=
  PlanBank.circuitNumbers.foldl (fun s c =>
    if s.plan.lampPlanned c then s.onLc (Lc.hand (s.plan.lampDevice c) (s.rl.lampOutput s.plan c)) else s) s

/-- The states of the circuits an event concerns, then every output. -/
def State.settleLamps (who : Nat → Bool) (s : State) : State := (s.decideCircuits who).handLamps

/-! ### The operation of R113 -/

/-- Steps 3 to 6. -/
def State.routeSteps (s : State) : State := (((s.strandZones).askClaims).decideSigns false).handLamps

/-- Steps 1 to 6, for an event that concerns the routes given. -/
def State.routeEvent (concerned : Nat → Bool) (s : State) : State :=
  (s.onRl (fun rl => (rl.judgeRoutes s.plan concerned).selectZones s.plan s.now rl)).routeSteps

/-! ### Batteries and lighting tests (R120, R123 to R128) -/

/-- 24 h from now, or the end time already set when that is later (R120). -/
def laterRecharge (now : Nat) (old : Option Nat) : Option Nat := some (max (now + Config.rechargeTime) (old.getD 0))

/-- The mains state accepted from a circuit that is in no test (R120). -/
def Circuit.takeMains (now : Nat) (absent : Bool) (x : Circuit) : Circuit :=
  if absent then { x with mainsAbsent := true, period := if x.mainsAbsent then x.period else some now }
  else
    match x.period with
    | none => { x with mainsAbsent := false }
    | some t =>
      { x with
        mainsAbsent := false, period := none,
        recharge := if t + Config.batteryPeriodLimit < now then laterRecharge now x.recharge else x.recharge }

/-- A circuit leaves a test: its result, its lockout after a duration test, and a battery period when its mains is ABSENT (R120). -/
def Circuit.leaveTest (now : Nat) (duration : Bool) (result : TestResult) (x : Circuit) : Circuit :=
  { x with
    result := result
    recharge := if duration then some (now + Config.rechargeTime) else x.recharge
    period := if x.mainsAbsent then some now else none }

/-- The word with circuit c's bit (09). -/
def circuitBit (c : Nat) : Word := 1#32 <<< (c - 1)

/-- The word with the bits of several circuits. -/
def circuitMask (cs : List Nat) : Word := cs.foldl (fun w c => w ||| circuitBit c) 0

/-- The test ends: every circuit still in it leaves with the result given, the held order completes, PS is told (R126 to R128), and
the circuits' states are decided; their outputs follow. -/
def State.closeTest (t : LightTest) (result : TestResult) (code : Completion) (words : List Word) (s : State) : State :=
  (((s.onRl (fun rl =>
      { rl with
        test := none
        circuits := rl.circuits.map (fun c x => if t.circuits.contains c then x.leaveTest s.now t.duration result else x) })).onPs
    (fun ps => { ps with testReports := ps.testReports + 1 })).endHeld .lights code words).decideCircuits t.circuits.contains

/-- The running test is aborted (R127, R128): pass mask 0, and the fail mask as it stands. -/
def State.abortTest (code : Completion) (s : State) : State :=
  match s.rl.test with
  | none => s
  | some t => s.closeTest t .aborted code [0, t.failMask]

/-- The running test ends with every circuit still in it passing (R126). -/
def State.passTest (t : LightTest) (s : State) : State :=
  s.closeTest t .pass .ok [t.passMask ||| circuitMask t.circuits, t.failMask]

/-- One circuit leaves the running test; the test ends when it was the last (R124 to R126). -/
def State.dropCircuit (c : Nat) (t : LightTest) (result : TestResult) (failed : Bool) (s : State) : State :=
  let t' := { t with circuits := t.circuits.filter (fun k => k ≠ c),
                     failMask := if failed then t.failMask ||| circuitBit c else t.failMask }
  let s' := s.onRl (fun rl =>
    { rl with test := some t', circuits := rl.circuits.modify c (Circuit.leaveTest s.now t.duration result) })
  if t'.circuits.isEmpty then s'.passTest t' else s'

/-- The minute of a failure: 0 in a function test, the whole minutes elapsed in a duration test, at most 179 (R124, 09; log entry 30). -/
def failMinute (t : LightTest) (now : Nat) : Nat := if t.duration then min 179 ((now - t.start) / 60) else 0

/-- The battery state of a LAMP value (09). -/
def batteryOf (v : Half) : Battery :=
  match v.extractLsb' 1 2 with
  | 0#2 => .sound
  | 1#2 => .lampFail
  | 2#2 => .batteryFail
  | _ => .unassigned v

/-- The reserve of a LAMP value (09). DESIGN CHOICE, log entry 54: a field of 101 to 127, of which the spec's percentage of 0 to 100 (R118) says
nothing, is taken, shown and compared as it stands. -/
def reserveOf (v : Half) : Nat := (v.extractLsb' 8 7).toNat

/-- RL takes a LAMP answer (R118, R120, R124). -/
def State.lampReport (c : Nat) (v : Half) (s : State) : State :=
  let accept (x : Circuit) : Circuit := { x with battery := batteryOf v, reserve := reserveOf v }
  match s.rl.test with
  | some t =>
    if t.circuits.contains c then
      let s' := s.onRl (fun rl =>
        { rl with circuits := rl.circuits.modify c (fun x => { accept x with mainsAbsent := !v.getLsbD 0 }) })
      if reserveOf v < 10 ∨ (batteryOf v).failed then (s'.dropCircuit c t (.fail (failMinute t s.now)) true).settleLamps (fun k => k = c)
      else s'.settleLamps (fun k => k = c)
    else
      (s.onRl (fun rl =>
        { rl with circuits := rl.circuits.modify c (fun x => (accept x).takeMains s.now (!v.getLsbD 0)) })).settleLamps (fun k => k = c)
  | none =>
    (s.onRl (fun rl =>
      { rl with circuits := rl.circuits.modify c (fun x => (accept x).takeMains s.now (!v.getLsbD 0)) })).settleLamps (fun k => k = c)

/-- A circuit's LAMP device has left OK: a circuit in a test leaves it ABORTED (R119, R125). -/
def State.lampLost (c : Nat) (s : State) : State :=
  match s.rl.test with
  | some t => if t.circuits.contains c then (s.dropCircuit c t .aborted false).settleLamps (fun k => k = c)
    else s.settleLamps (fun k => k = c)
  | none => s.settleLamps (fun k => k = c)

/-! ### Messages (R101, R108, R113, R127) -/

/-- RL takes ZA's message that a zone has entered or left ALARM: a running test is aborted by the first (R127), then R113. -/
def State.routesAlarm (z : Nat) (entered : Bool) (s : State) : State :=
  let s := s.onRl (fun rl => { rl with zones := rl.zones.modify z (fun x => { x with alarm := entered }) })
  let s := if entered then s.abortTest .aborted else s
  s.routeEvent (fun r => (s.plan.traversed r).contains z)

/-- RL takes ZA's message of a change of a zone's effective phase: leaving NONE aborts a running test (R127), then R113. -/
def State.routesPhase (z : Nat) (phase : Phase) (s : State) : State :=
  let leaves := (s.rl.zones.get z).phase = .none && phase ≠ .none
  let s := s.onRl (fun rl => { rl with zones := rl.zones.modify z (fun x => { x with phase := phase }) })
  (if leaves then s.abortTest .aborted else s).routeEvent (fun _ => false)

/-- ZONE_ALARM_MESSAGE (R101, R113): CU and RL take ZA's next message, when it is one of a zone entering or leaving ALARM. -/
def execZoneAlarmMessage (s : State) : Host.Outcome State Fault Refusal :=
  match s.mail.zaOut with
  | .alarm z entered :: rest =>
    done s (((s.onMail (fun m => { m with zaOut := rest })).callsAlarm z entered).routesAlarm z entered)
  | _ => nothing s

/-- EFFECTIVE_PHASE_MESSAGE (R113): RL takes ZA's next message, when it is one of a change of effective phase. -/
def execEffectivePhaseMessage (s : State) : Host.Outcome State Fault Refusal :=
  match s.mail.zaOut with
  | .phase z phase :: rest => done s ((s.onMail (fun m => { m with zaOut := rest })).routesPhase z phase)
  | _ => nothing s

/-- RL takes DU's message of a door's new condition (R108, R113). -/
def State.routesDoor (d : Nat) (c : DoorCond) (s : State) : State :=
  (s.onRl (fun rl => { rl with doorCond := rl.doorCond.set d c })).routeEvent (fun r => (s.plan.routeDoors r).contains d)

/-- DOOR_CONDITION_MESSAGE (R113, R135): RL and ZA take DU's next message. -/
def execDoorConditionMessage (s : State) : Host.Outcome State Fault Refusal :=
  match s.mail.duOut with
  | [] => nothing s
  | (d, c) :: rest => done s (((s.onMail (fun m => { m with duOut := rest })).routesDoor d c).closingMessage d c)

/-- RETURN_HOLD_EXPIRY (R112): the zone takes its candidate, and R113 continues from its third step. -/
def execReturnHoldExpiry (z : Nat) (s : State) : Host.Outcome State Fault Refusal :=
  match (s.rl.zones.get z).candidate with
  | none => nothing s
  | some f =>
    if expired (s.rl.zones.get z).holdEnd s.now then
      done s
        (s.onRl (fun rl =>
          { rl with
            zones := rl.zones.modify z (fun x => { x with selection := .route f, candidate := none, holdEnd := none }) })).routeSteps
    else nothing s

/-! ### Orders (R109, R110, R122, R123, R128) -/

/-- Sets or clears a route's bar and goes through R113 (R109, R110). -/
def State.setBar (r : Nat) (bar : Bool) (s : State) : State :=
  (s.onRl (fun rl => { rl with routes := rl.routes.modify r (fun x => { x with bar := bar }) })).routeEvent (fun k => k = r)

/-- BAR ROUTE (R109). -/
def barRoute (r : Nat) (s : State) : Ending :=
  if (s.rl.routes.get r).bar then .completes s .kept [] else .completes (s.setBar r true) .ok []

/-- BAR_ROUTE (R109). -/
def execBarRoute (s : State) : Host.Outcome State Fault Refusal :=
  workOn (fun | .barRoute r => some (barRoute r) | _ => none) s

/-- UNBAR ROUTE (R110). -/
def unbarRoute (r : Nat) (s : State) : Ending :=
  if (s.rl.routes.get r).bar then .completes (s.setBar r false) .ok [] else .completes s .kept []

/-- UNBAR_ROUTE (R110). -/
def execUnbarRoute (s : State) : Host.Outcome State Fault Refusal :=
  workOn (fun | .unbarRoute r => some (unbarRoute r) | _ => none) s

/-- A circuit that would give no cover once the set entered a duration test (R122 check 3). -/
def State.outOfCover (s : State) (cs : List Nat) (c : Nat) : Bool :=
  cs.contains c || (s.rl.circuits.get c).state = .durationTest || (s.rl.circuits.get c).state = .recharge

/-- Some zone served by circuits would keep none to rely on (R122 check 3). -/
def State.breaksCover (s : State) (cs : List Nat) : Bool :=
  PlanBank.zoneNumbers.any (fun z =>
    (PlanBank.circuitNumbers.any (fun c => s.plan.lampPlanned c && (s.plan.servedZones c).contains z)) &&
    PlanBank.circuitNumbers.all (fun c =>
      !(s.plan.lampPlanned c && (s.plan.servedZones c).contains z) || s.outOfCover cs c))

/-- A test is accepted (R123). -/
def State.startTest (duration : Bool) (cs : List Nat) (hours : Nat) (s : State) : State :=
  (s.onRl (fun rl =>
    { rl with
      test := some
        { duration := duration, start := s.now,
          ending := s.now + (if duration then hours * Config.hour else Config.functionTestTime), circuits := cs, passMask := 0,
          failMask := 0 }
      circuits := rl.circuits.map (fun c x => if cs.contains c then { x with period := none } else x) })).settleLamps cs.contains

/-- TEST LIGHTS (R122). -/
def testLights (duration : Bool) (set : Word) (hours : Nat) (s : State) : Ending :=
  let cs := circuitsOf set
  if s.rl.test.isSome || cs.any (fun c => (s.rl.circuits.get c).state ≠ .normal) then .completes s .refusedState []
  else if s.za.seq ≠ .calm then .completes s .refusedSite []
  else if duration && s.breaksCover cs then .completes s .refusedCover []
  else .held (s.startTest duration cs hours) .lights

/-- TEST_LIGHTS (R122). -/
def execTestLights (s : State) : Host.Outcome State Fault Refusal :=
  workOn (fun | .testLights duration set hours => some (testLights duration set hours) | _ => none) s

/-- STOP TEST (R128). -/
def stopTest (s : State) : Ending :=
  if s.rl.test.isNone then .completes s .kept [] else .completes (s.abortTest .cancelled).handLamps .ok []

/-- STOP_TEST (R128). -/
def execStopTest (s : State) : Host.Outcome State Fault Refusal :=
  workOn (fun | .stopTest => some stopTest | _ => none) s

/-- TEST_END_TIME (R126). -/
def execTestEndTime (s : State) : Host.Outcome State Fault Refusal :=
  match s.rl.test with
  | none => nothing s
  | some t => if t.ending ≤ s.now then done s (s.passTest t).handLamps else nothing s

/-- RECHARGE_EXPIRY (R120). -/
def execRechargeExpiry (c : Nat) (s : State) : Host.Outcome State Fault Refusal :=
  if expired (s.rl.circuits.get c).recharge s.now then
    done s ((s.onRl (fun rl => { rl with circuits := rl.circuits.modify c (fun x => { x with recharge := none }) })).decideCircuits
      (fun k => k = c))
  else nothing s

/-! ### Activation (R131) -/

/-- A route taking up the new plan, before it is judged. -/
def Route.takeUp (old p : PlanBank) (r : Nat) (x : Route) : Route :=
  if old.routePlanned r && p.routePlanned r then x else .zero

/-- A circuit taking up the new plan, before its state is decided; one that starts anew shows reserve 0 until its first report (log entry 45). -/
def Circuit.takeUp (old p : PlanBank) (c : Nat) (x : Circuit) : Circuit :=
  if old.lampPlanned c && p.lampPlanned c && old.lampDevice c = p.lampDevice c then x else .zero

/-- Steps 1 and 2 of R131, the zone and door conditions being those ZA and DU then hold (log entry 11). -/
def Rl.takeUp (old p : PlanBank) (za : Za) (du : Du) (rl : Rl) : Rl :=
  let rl : Rl :=
    { rl with
      routes := rl.routes.map (Route.takeUp old p)
      zones := rl.zones.map (fun z x => { x with alarm := (za.zones.get z).cond = .alarm, phase := (za.zones.get z).phase })
      doorCond := rl.doorCond.map (fun d _ => (du.doors.get d).cond)
      signs := rl.signs.map (fun g x => if p.signPlanned g then x else .zero)
      circuits := rl.circuits.map (Circuit.takeUp old p) }
  let rl := rl.judgeRoutes p (fun _ => true)
  { rl with
    zones := rl.zones.map (fun z x => rl.selectAfresh (if p.zonePlanned z then p.preferences z else []) x) }

/-- RL takes up the new plan, which is already the active one (R131). -/
def State.routesTakeUp (old : PlanBank) (s : State) : State :=
  ((((s.onRl (Rl.takeUp old s.plan s.za s.du)).strandZones).askClaims).decideSigns true).settleLamps (fun _ => true)

end Sys2Proof.Machine
end

