-- ==== Sys2Proof/Machine/Loops.lean ====
section
/-!
DEFINITION. The loop controllers: sweeps, answers, classification, loop states, break location, device conditions and their reports
(R30 to R34, R36 to R55), and the meanings of their commands.
-/

namespace Sys2Proof.Machine

/-! ### Kinds -/

/-- A kind of device that carries an output (R31). -/
def hasOutput : DeviceKind → Bool
  | .detector => false
  | .breakglass => false
  | _ => true

/-- A kind of device whose answers carry a value (02, 'Answers'). -/
def hasValue : DeviceKind → Bool
  | .sign => false
  | .sounder => false
  | _ => true

/-- A loop is running in every state but IDLE. -/
def LoopState.running (x : LoopState) : Bool := x ≠ .idle

/-! ### Reports of device conditions (R48) and answers passed on (R45) -/

/-- A device that has left OK becomes unreachable for its owner; a detector also when RESTORE DEVICE returns it to WAITING (R3, R48). -/
def leavesOk (was now : DeviceCond) : Bool := was = .ok && now ≠ .ok

/-- A detector's decision is to stand still after this change (R3): ISOLATE DEVICE keeps it as it is. -/
def stopsDeciding (was now : DeviceCond) : Bool := (was = .ok && now ≠ .ok && now ≠ .isolated) || (was = .isolated && now = .waiting)

/-- LC reports device i's change of condition from `was` to its owner (R48). The zone's fault mark follows from the conditions (R8). -/
def State.reportDevice (i : Nat) (was : DeviceCond) (s : State) : State :=
  let now := (s.device i).cond
  match s.plan.deviceKind i with
  | some .detector => if stopsDeciding was now then s.detectorLost i else s
  | some .breakglass => if stopsDeciding was now then s.detectorLost i else s
  | some .door =>
    if leavesOk was now then
      match s.plan.doorOfDevice i with
      | some d => s.doorLost d
      | none => s
    else s
  | some .help =>
    if leavesOk was now then
      match s.plan.helpOfDevice i with
      | some h => s.onCu (fun cu => { cu with helps := cu.helps.modify h (fun x => { x with settle := true }) })
      | none => s
    else s
  | some .lamp =>
    if leavesOk was now then
      match s.plan.lampOfDevice i with
      | some c => s.lampLost c
      | none => s
    else s
  | _ => s

/-- LC reports the devices of a loop whose conditions differ from those of `was`, one at a time in ascending address (R48; log entry 14). -/
def State.reportLoop (s : State) (l : Nat) (was : State) : State :=
  (PlanBank.loopDevices l).foldl (fun t i =>
    if (was.device i).cond = (s.device i).cond then t else t.reportDevice i (was.device i).cond) s

/-- LC passes an answer of device i to its owner (R45). -/
def State.passAnswer (i : Nat) (value : Half) (s : State) : State :=
  match s.plan.deviceKind i with
  | some .detector => s.detectorAnswer i value
  | some .breakglass => s.contactAnswer i value
  | some .door =>
    match s.plan.doorOfDevice i with
    | some d => s.doorReport d value
    | none => s
  | some .help =>
    match s.plan.helpOfDevice i with
    | some h => s.helpReport h value
    | none => s
  | some .lamp =>
    match s.plan.lampOfDevice i with
    | some c => s.lampReport c value
    | none => s
  | _ => s

/-! ### The start of a sweep (R30, R31, R43) -/

/-- The entry of an address in a call-out: the output held, for a planned output device (R31). -/
def State.callEntry (s : State) (l addr : Nat) : Poll :=
  { addr := addr
    sent :=
      match s.plan.deviceKind (PlanBank.deviceIndex l addr) with
      | some k => if hasOutput k then (s.device (PlanBank.deviceIndex l addr)).output else none
      | none => none
    heardA := false, heardB := false, taken := false }

/-- The addresses that the next sweep of a loop polls: all in a census sweep, those due in a regular one (R30). -/
def State.polled (s : State) (l : Nat) : List Nat :=
  if (s.loop l).state = .rollcall then PlanBank.addresses
  else PlanBank.addresses.filter (fun a => s.plan.due (PlanBank.deviceIndex l a) (s.loop l).next)

/-- The sweep that begins (R30, R31). -/
def State.newSweep (s : State) (l : Nat) : Sweep :=
  { census := (s.loop l).state = .rollcall, polls := (s.polled l).map (s.callEntry l), openUsed := 0 }

/-- CALL_OUT (R30, R31, R43): the loop record is rewritten as each sweep begins. -/
def execCallOut (l : Nat) (shortA shortB : Bool) (s : State) : Host.Outcome State Fault Refusal :=
  if (s.loop l).state.running && (s.loop l).sweep.isNone && isLoop l then
    done s ((s.setLoop l (fun x =>
      { x with
        number := x.next, next := (x.next + 1) % 16, endADown := shortA, endBDown := shortB, sweep := some (s.newSweep l) })).rewrite
      (fun k => k = loopRecord l))
  else nothing s

/-! ### Answers (R32 to R34, R45, R47, R51) -/

/-- The echo check of a due poll whose entry carried an output (R47). -/
def Device.checkEcho (sent : Option (BitVec 4)) (echo : BitVec 4) (x : Device) : Device :=
  match sent with
  | none => x
  | some v =>
    if echo = v then { x with echoCount := 0, outputFault := false }
    else { x with echoCount := min 2 (x.echoCount + 1), outputFault := x.outputFault || 2 ≤ x.echoCount + 1 }

/-- Status and value recorded, the miss count reset (R45). DESIGN CHOICE, log entry 42: a reported kind that carries no echo gives a status whose echo
bits are 0, and one that carries no value leaves the old value. Bits of a value that 09 assigns to no field are recorded as the module reported them
(log entry 48). -/
def Device.record (c : AnswerContent) (x : Device) : Device :=
  { x with
    miss := 0, faultBit := c.fault, echo := if hasOutput c.kind then c.echo else 0,
    value := if hasValue c.kind then c.value else x.value }

/-- The first line of R45 that holds. -/
def Device.judge (k : DeviceKind) (c : AnswerContent) (x : Device) : Device :=
  if c.kind ≠ k then { x with cond := .wrongKind, recovery := 0 }
  else if c.fault then { x with cond := .fault, recovery := 0 }
  else if x.outputFault then { x with cond := .fault, recovery := 0 }
  else if x.cond = .missing ∧ x.recovery + 1 < 2 then { x with recovery := x.recovery + 1 }
  else { x with cond := .ok, recovery := 0 }

/-- The device after an answer taken from it (R45, R47). The echo is checked also where the reported kind carries none (log entry 42). -/
def Device.take (k : DeviceKind) (sent : Option (BitVec 4)) (c : AnswerContent) (x : Device) : Device :=
  (((x.record c).checkEcho (if hasOutput k then sent else none) c.echo).judge k c)

/-- LC takes an answer of planned device i: its condition is decided and reported, and the answer is passed on where it is OK (R45, R48). -/
def State.takeAnswer (i : Nat) (k : DeviceKind) (sent : Option (BitVec 4)) (c : AnswerContent) (s : State) : State :=
  let was := s.device i
  if was.cond = .isolated then s
  else
    let s := s.setDevice i (fun x => x.take k sent c)
    let s := if (s.device i).cond = was.cond then s else s.reportDevice i was.cond
    if (s.device i).cond = .ok then s.passAnswer i c.value else s

/-- An extra answer (R51). -/
def State.extraAnswer (l addr : Nat) (c : AnswerContent) (s : State) : State :=
  let i := PlanBank.deviceIndex l addr
  let s' := s.setDevice i (fun x => { x with extra := true, extraKind := some c.kind })
  if (s.device i).extra then s'
  else
    s'.setLoop l (fun x =>
      { x with extraCount := x.extraCount + 1, firstExtra := if x.extraCount = 0 then addr else x.firstExtra })

/-- A heard answer that is no disagreement: of a planned device, or extra (R34, R51). -/
def State.heardAnswer (l addr : Nat) (sent : Option (BitVec 4)) (c : AnswerContent) (s : State) : State :=
  match s.plan.deviceKind (PlanBank.deviceIndex l addr) with
  | some k => s.takeAnswer (PlanBank.deviceIndex l addr) k sent c
  | none => s.extraAnswer l addr c

/-- What the two copies of an answer come to (R34). -/
inductive Hearing where
  | unheard
  | disagreement
  | taken (c : AnswerContent)
deriving DecidableEq, Repr

/-- R34's table. -/
def hearing : Option AnswerContent → Option AnswerContent → Hearing
  | none, none => .unheard
  | some c, none => .taken c
  | none, some c => .taken c
  | some c, some d => if c = d then .taken c else .disagreement

/-- The disagree count rises (R34). -/
def State.disagree (l : Nat) (s : State) : State := s.setLoop l (fun x => { x with disagree := count255 x.disagree })

/-- The poll of an address is marked with where it was heard and whether it was taken (R34). -/
def State.markPoll (l addr : Nat) (heardA heardB taken : Bool) (s : State) : State :=
  s.setLoop l (fun x =>
    { x with
      sweep := x.sweep.map (fun w =>
        { w with
          polls := w.polls.map (fun q =>
            if q.addr = addr then { q with heardA := heardA, heardB := heardB, taken := taken } else q) }) })

/-- An answer in the roll-call segment, in the position of a poll not yet answered (R32, R34). A disagreement is counted for an unplanned address too,
and sets no EXTRA mark (log entry 44). -/
def State.rollCallAnswer (l : Nat) (q : Poll) (a b : Option AnswerContent) (s : State) : State :=
  match hearing a b with
  | .unheard => s
  | .disagreement => (s.markPoll l q.addr a.isSome b.isSome false).disagree l
  | .taken c => (s.markPoll l q.addr a.isSome b.isSome true).heardAnswer l q.addr q.sent c

/-- A position of the open segment is used (R33). -/
def State.useOpen (l : Nat) (s : State) : State :=
  s.setLoop l (fun x => { x with sweep := x.sweep.map (fun w => { w with openUsed := w.openUsed + 1 }) })

/-- An answer in the open segment (R33): no echo check; one of an address that had an entry in the call-out is discarded. -/
def State.openAnswer (l addr : Nat) (w : Sweep) (a b : Option AnswerContent) (s : State) : State :=
  match hearing a b with
  | .unheard => s.useOpen l
  | .disagreement => (s.useOpen l).disagree l
  | .taken c =>
    if w.polls.any (fun q => q.addr = addr) then s.useOpen l else (s.useOpen l).heardAnswer l addr none c

/-- The copies that an end hears: none while its driver is DOWN (R34, R43). -/
def heardAt (down : Bool) (c : Option AnswerContent) : Option AnswerContent := if down then none else c

/-- ANSWER (R32 to R34, R45, R51). -/
def execAnswer (l : Nat) (segment : Segment) (addr : Nat) (atA atB : Option AnswerContent) (s : State) :
    Host.Outcome State Fault Refusal :=
  match (s.loop l).sweep with
  | none => nothing s
  | some w =>
    match segment with
    | .rollCall =>
      match w.polls.find? (fun q => q.addr = addr && !q.heardA && !q.heardB) with
      | none => nothing s
      | some q => done s (s.rollCallAnswer l q (heardAt (s.loop l).endADown atA) (heardAt (s.loop l).endBDown atB))
    | .openSegment =>
      if !w.census && w.openUsed < Config.openPositions && isAddress addr then
        done s (s.openAnswer l addr w (heardAt (s.loop l).endADown atA) (heardAt (s.loop l).endBDown atB))
      else nothing s

/-! ### Classification (R40) and break location (R44) -/

/-- A poll heard at both ends. -/
def Poll.both (q : Poll) : Bool := q.heardA && q.heardB

/-- A poll heard at neither end. -/
def Poll.unheard (q : Poll) : Bool := !q.heardA && !q.heardB

/-- The polls of a restricted order that are not lone, in order; `prev` is the poll before the list (R40). -/
def notLone : Option Poll → List Poll → List Poll
  | _, [] => []
  | prev, q :: rest =>
    let near := prev.toList ++ rest.head?.toList
    if !near.isEmpty && !q.both && near.all Poll.both then notLone (some q) rest else q :: notLone (some q) rest

/-- R40's table; none for a sweep classified none. DESIGN CHOICE, log entry 53: a sweep in which no device is due stays none with both ends DOWN too,
where R43 calls every sweep dead. -/
def classify (polls : List Poll) : Option Grade :=
  if polls.isEmpty then none
  else if polls.all Poll.unheard then some .dead
  else if (notLone none polls).all Poll.both then some .healthy
  else if (notLone none polls).any Poll.unheard then some .severed
  else some .split

/-- The last poll heard at end A, and the polls after it. -/
def lastAtA : List Poll → Option (Nat × List Poll)
  | [] => none
  | q :: rest =>
    match lastAtA rest with
    | some r => some r
    | none => if q.heardA then some (q.addr, rest) else none

/-- R44, over the polls that are not lone. -/
def breakLocation (polls : List Poll) : Nat × Nat :=
  let firstB (qs : List Poll) : Nat := ((qs.find? Poll.heardB).map Poll.addr).getD 0
  match lastAtA polls with
  | some (a, rest) => (a, firstB rest)
  | none => (0, firstB polls)

/-- A sweep's polls in the restricted order of R40: the planned devices it polled, along the cable. -/
def State.restricted (s : State) (l : Nat) (w : Sweep) : List Poll :=
  (s.plan.orderList l).filterMap (fun a => w.polls.find? (fun q => q.addr = a))

/-! ### Loop states (R41, R42) -/

/-- Rank of a classification, best first (R40). -/
def Grade.rank : Grade → Nat
  | .healthy => 0
  | .split => 1
  | .severed => 2
  | .dead => 3

/-- The state a classification corresponds to. -/
def Grade.state : Grade → LoopState
  | .healthy => .ring
  | .split => .split
  | .severed => .severed
  | .dead => .failed

/-- The classification a running state corresponds to. -/
def LoopState.grade : LoopState → Option Grade
  | .ring => some .healthy
  | .split => some .split
  | .severed => some .severed
  | .failed => some .dead
  | .idle => none
  | .rollcall => none

/-- The better of two classifications. -/
def Grade.better (g h : Grade) : Grade := if g.rank ≤ h.rank then g else h

/-- The worse of two classifications. -/
def Grade.worse (g h : Grade) : Grade := if g.rank ≤ h.rank then h else g

/-- One more sweep in a run, whose bound is combined with its classification; a new run has that classification for its bound (R41). -/
def Run.grow (combine : Grade → Grade → Grade) (g : Grade) (r : Run) : Run :=
  { count := r.count + 1, bound := if r.count = 0 then g else combine r.bound g }

/-- R41: the loop after a regular sweep classified g; its state may move. -/
def Loop.classified (restore : Nat) (g : Grade) (x : Loop) : Loop :=
  match x.state.grade with
  | none => x
  | some here =>
    if g = here then { x with worse := .clear, better := .clear }
    else if here.rank < g.rank then
      (if 2 ≤ (x.worse.grow Grade.better g).count then
        { x with state := (x.worse.grow Grade.better g).bound.state, worse := .clear, better := .clear }
       else { x with worse := x.worse.grow Grade.better g, better := .clear })
    else if restore ≤ (x.better.grow Grade.worse g).count then
      { x with state := (x.better.grow Grade.worse g).bound.state, worse := .clear, better := .clear }
    else { x with better := x.better.grow Grade.worse g, worse := .clear }

/-- A loop that has entered a state: SPLIT and SEVERED write the break location while both drivers are UP (R44). -/
def Loop.locate (polls : List Poll) (x : Loop) : Loop :=
  if (x.state = .split ∨ x.state = .severed) ∧ !x.endADown ∧ !x.endBDown then
    { x with breakA := (breakLocation (notLone none polls)).1, breakB := (breakLocation (notLone none polls)).2 }
  else x

/-- A device index lies on loop l. -/
def onLoop (l i : Nat) : Bool := PlanBank.loopOf i = l

/-- Device index i, whose device is x, is a planned device of loop l that is not ISOLATED. -/
def State.inService (s : State) (l i : Nat) (x : Device) : Bool := onLoop l i && s.plan.devicePlanned i && x.cond ≠ .isolated

/-- Changes the planned devices of a loop that are not ISOLATED. -/
def State.onLoopDevices (l : Nat) (f : Device → Device) (s : State) : State :=
  s.onLc (fun lc => { lc with devices := lc.devices.map (fun i x => if s.inService l i x then f x else x) })

/-- R42: every planned device that is not ISOLATED and not already MISSING becomes MISSING. -/
def Device.failed (limit : Nat) (x : Device) : Device :=
  if x.cond = .missing then x else { x with cond := .missing, miss := limit, recovery := 0 }

/-! ### The end of a sweep (R38, R46, R49) -/

/-- An unheard due poll (R46). -/
def Device.missed (limit : Nat) (x : Device) : Device :=
  { x with
    miss := min limit (x.miss + 1), recovery := 0, cond := if limit ≤ x.miss + 1 then .missing else x.cond }

/-- Device i has an unheard due poll in sweep w. -/
def Sweep.misses (w : Sweep) (i : Nat) : Bool := w.polls.any (fun q => q.addr = PlanBank.addressOf i && !q.taken)

/-- The miss counts of a sweep (R46). -/
def State.countMisses (l : Nat) (w : Sweep) (s : State) : State :=
  s.onLc (fun lc =>
    { lc with
      devices := lc.devices.map (fun i x =>
        if s.inService l i x && w.misses i && !((s.loop l).state = .rollcall && x.cond = .waiting) then
          x.missed (s.plan.missLimit l)
        else x) })

/-- The consequences of entering state FAILED, SPLIT or SEVERED (R42, R44). -/
def State.entered (l : Nat) (polls : List Poll) (s : State) : State :=
  if (s.loop l).state = .failed then s.onLoopDevices l (Device.failed (s.plan.missLimit l)) else s.setLoop l (Loop.locate polls)

/-- The end of a regular sweep, its misses counted (R41, R42, R44). -/
def State.endRegular (l : Nat) (polls : List Poll) (s : State) : State :=
  match classify polls with
  | none => s
  | some g =>
    let s' := s.setLoop l (Loop.classified (s.plan.restoreCount l) g)
    if (s'.loop l).state = (s.loop l).state then s' else s'.entered l polls

/-- How many planned devices of the loop have a condition. -/
def State.countCond (s : State) (l : Nat) (c : DeviceCond) : Nat :=
  ((PlanBank.loopDevices l).filter (fun i => s.plan.devicePlanned i && (s.device i).cond = c)).length

/-- The result words of START LOOP (R38). -/
def State.rollCallWords (s : State) (l : Nat) : List Word :=
  [wordOf (s.loop l).state.code, wordOf (s.countCond l .ok), wordOf (s.countCond l .missing), wordOf (s.countCond l .wrongKind),
    wordOf (s.loop l).extraCount, wordOf (s.countCond l .fault)]

/-- The roll-call ends (R38). The result words count the devices as R42 has left them (log entry 41). A last sweep that is classified none polled no
planned device, and nothing is heard in such a roll-call. -/
def State.endRollCall (l : Nat) (polls : List Poll) (s : State) : State :=
  let s1 := s.onLoopDevices l (fun x =>
    if x.cond = .waiting then { x with cond := .missing, miss := s.plan.missLimit l } else x)
  if (s.loop l).rollHeard then
    let s2 := (s1.setLoop l (fun x => { x with state := ((classify polls).getD .dead).state })).entered l polls
    s2.endHeld (.loop l) .ok (s2.rollCallWords l)
  else ((s1.setLoop l (fun x => { x with state := .failed })).entered l polls).endHeld (.loop l) .failed []

/-- The end of a census sweep, its misses counted (R38). -/
def State.endCensus (l : Nat) (polls : List Poll) (s : State) : State :=
  let s1 := s.setLoop l (fun x => { x with rollHeard := x.rollHeard || polls.any (fun q => !q.unheard) })
  if s1.countCond l .waiting = 0 ∨ s1.plan.rollCallAttempts l ≤ (s1.loop l).attempt then s1.endRollCall l polls
  else s1.setLoop l (fun x => { x with attempt := x.attempt + 1 })

/-- SWEEP_END (R38, R49): misses, classification and loop state, then the reports. The end of a regular sweep rewrites the loop record (R49). -/
def execSweepEnd (l : Nat) (s : State) : Host.Outcome State Fault Refusal :=
  match (s.loop l).sweep with
  | none => nothing s
  | some w =>
    let s1 := (s.setLoop l (fun x => { x with sweep := none })).countMisses l w
    let s2 := if w.census then s1.endCensus l (s.restricted l w)
      else (s1.endRegular l (s.restricted l w)).rewrite (fun k => k = loopRecord l)
    done s (s2.reportLoop l s)

/-! ### Orders (R37, R39, R52, R53) -/

/-- An order moves a device to condition c; leaving MISSING sets its recovery count to 0 (R45). -/
def Device.moveTo (c : DeviceCond) (x : Device) : Device :=
  { x with cond := c, recovery := if x.cond = .missing then 0 else x.recovery }

/-- A device set to WAITING with its counts at 0; an echo count set to 0 clears the output fault with it (R37, R47, R53). -/
def Device.await (x : Device) : Device :=
  { x with cond := .waiting, miss := 0, echoCount := 0, recovery := 0, outputFault := false }

/-- The loop as START LOOP leaves it (R37). -/
def Loop.started (x : Loop) : Loop :=
  { x with
    state := .rollcall, attempt := 1, disagree := 0, extraCount := 0, firstExtra := 0, breakA := 0, breakB := 0, worse := .clear,
    better := .clear, rollHeard := false, sweep := none }

/-- START LOOP's work (R37). The reported kind is cleared with the EXTRA mark (log entry 51). -/
def State.startLoop (l : Nat) (s : State) : State :=
  (((s.onLoopDevices l Device.await).onLc (fun lc =>
      { lc with devices := lc.devices.map (fun i x => if onLoop l i then { x with extra := false, extraKind := none } else x) })).setLoop
    l Loop.started).reportLoop l s

/-- START LOOP (R37). -/
def startLoop (l : Nat) (s : State) : Ending :=
  if (s.loop l).state = .idle ∨ (s.loop l).state = .failed then .held (s.startLoop l) (.loop l)
  else .completes s .refusedState []

/-- START_LOOP (R37). -/
def execStartLoop (s : State) : Host.Outcome State Fault Refusal :=
  workOn (fun | .startLoop l => some (startLoop l) | _ => none) s

/-- The loop as STOP LOOP leaves it (R39). -/
def Loop.stopped (x : Loop) : Loop :=
  { x with state := .idle, worse := .clear, better := .clear, endADown := false, endBDown := false, sweep := none }

/-- The records that STOP LOOP rewrites (R39): the loop record, and the device record of each device that it sets to WAITING, be the device WAITING
already. That 'device records' are those is DEDUCED, log entry 5. -/
def State.stopRecords (l : Nat) (s : State) (k : Nat) : Bool :=
  k = loopRecord l || deviceRecords (fun i => s.inService l i (s.device i)) k

/-- STOP LOOP's work on a running loop (R39). -/
def State.stopLoop (l : Nat) (s : State) : State :=
  ((((s.onLoopDevices l (Device.moveTo .waiting)).setLoop l Loop.stopped).endHeld (.loop l) .aborted []).rewrite
    (s.stopRecords l)).reportLoop l s

/-- STOP LOOP (R39). -/
def stopLoop (l : Nat) (s : State) : Ending :=
  if (s.loop l).state = .idle then .completes s .kept [] else .completes (s.stopLoop l) .ok []

/-- STOP_LOOP (R39). -/
def execStopLoop (s : State) : Host.Outcome State Fault Refusal :=
  workOn (fun | .stopLoop l => some (stopLoop l) | _ => none) s

/-- The kinds ISOLATE DEVICE accepts (R52). -/
def isolable : Option DeviceKind → Bool
  | some .detector => true
  | some .breakglass => true
  | some .sounder => true
  | _ => false

/-- ISOLATE DEVICE (R52). -/
def isolateDevice (l a : Nat) (s : State) : Ending :=
  let i := PlanBank.deviceIndex l a
  if !isolable (s.plan.deviceKind i) then .completes s .refusedState []
  else if (s.device i).cond = .isolated then .completes s .kept []
  else .completes ((s.setDevice i (Device.moveTo .isolated)).reportDevice i (s.device i).cond) .ok []

/-- ISOLATE_DEVICE (R52). -/
def execIsolateDevice (s : State) : Host.Outcome State Fault Refusal :=
  workOn (fun | .isolateDevice l a => some (isolateDevice l a) | _ => none) s

/-- RESTORE DEVICE (R53): a SOUNDER is sent its newest handed value from its next entry on. -/
def restoreDevice (l a : Nat) (s : State) : Ending :=
  let i := PlanBank.deviceIndex l a
  if (s.device i).cond = .isolated then
    .completes ((s.setDevice i (fun x => { x.await with output := x.handed })).reportDevice i .isolated) .ok []
  else .completes s .kept []

/-- RESTORE_DEVICE (R53). -/
def execRestoreDevice (s : State) : Host.Outcome State Fault Refusal :=
  workOn (fun | .restoreDevice l a => some (restoreDevice l a) | _ => none) s

/-! ### The release broadcast (R36) -/

/-- RELEASE_BROADCAST (R36): driven at each end whose line is not shorted, and again a second later. -/
def execReleaseBroadcast (l : Nat) (shortA shortB : Bool) (s : State) : Host.Outcome State Fault Refusal :=
  if expired (s.loop l).broadcastAt s.now then
    done s (s.setLoop l (fun x =>
      { x with broadcastAt := some (s.now + Config.broadcastRepeat), broadcastEnds := some (!shortA, !shortB) }))
  else nothing s

/-! ### Activation (R51, R55) -/

/-- An address is planned in one plan and not in the other, or with another kind (R55). -/
def deviceChangedBy (old p : PlanBank) (i : Nat) : Bool := old.deviceCode i ≠ p.deviceCode i

/-- A device taking up the new plan (R55). DEDUCED, log entry 51: where an address with the EXTRA mark is newly planned, the reported kind clears with the
mark, which alone R51 names. -/
def Device.takeUp (old p : PlanBank) (i : Nat) (x : Device) : Device :=
  if deviceChangedBy old p i then (if p.devicePlanned i then { Device.zero with cond := .waiting } else .zero) else x

/-- The addresses of a loop that still carry the EXTRA mark (R51). -/
def State.extraLeft (s : State) (p : PlanBank) (l : Nat) : List Nat :=
  PlanBank.addresses.filter (fun a =>
    (s.device (PlanBank.deviceIndex l a)).extra && !p.devicePlanned (PlanBank.deviceIndex l a))

/-- The extra count and the first extra address after the marks of newly planned addresses have cleared (R51). -/
def Loop.dropExtra (left : List Nat) (x : Loop) : Loop :=
  { x with extraCount := left.length, firstExtra := if left.contains x.firstExtra then x.firstExtra else left.headD 0 }

/-- A loop taking up the new plan (R55). -/
def Loop.takeUp (old p : PlanBank) (l : Nat) (x : Loop) : Loop :=
  if !x.state.running then x
  else if !p.loopPlanned l then x.stopped
  else if (PlanBank.loopDevices l).any (deviceChangedBy old p) then
    { x with state := .rollcall, attempt := 1, worse := .clear, better := .clear, rollHeard := false, sweep := none }
  else x

/-- The running loops the new plan no longer plans: a START LOOP held for one completes ABORTED (R55). -/
def State.abortLoop (was : State) (s : State) (l : Nat) : State :=
  if (was.loop l).state.running && !s.plan.loopPlanned l then s.endHeld (.loop l) .aborted [] else s

/-- A device planned in both plans with different kinds: it becomes NONE with its record cleared, and then WAITING (R55). -/
def kindChangedBy (old p : PlanBank) (i : Nat) : Bool := old.devicePlanned i && p.devicePlanned i && deviceChangedBy old p i

/-- The record of a device whose kind changed is rewritten, and its changes of condition raise NOTICE.LOOP, even where it was WAITING before (R55). -/
def State.kindsTakeUp (old : PlanBank) (s : State) : State :=
  (s.rewrite (deviceRecords (kindChangedBy old s.plan))).raise
    (PlanBank.deviceNumbers.any (kindChangedBy old s.plan)) 5

/-- The loop controllers take up the new plan, which is already the active one (R55). A device that remains planned keeps its condition, so no
owner has a report to act on beyond what its own activation rule says. -/
def State.loopsTakeUp (old : PlanBank) (s : State) : State :=
  [0, 1, 2, 3].foldl (State.abortLoop s)
    ((s.onLc (fun lc =>
      { loops := lc.loops.map (fun l x => (x.dropExtra (s.extraLeft s.plan l)).takeUp old s.plan l)
        devices := lc.devices.map (Device.takeUp old s.plan) })).kindsTakeUp old)

end Sys2Proof.Machine
end

