-- ==== Sys2Proof/Machine/Presence.lean ====
section
/-!
DEFINITION. The presence monitor of the exchange port (R139 to R142, R144), and the meanings of its timer and of the uptime tick.
-/

namespace Sys2Proof.Machine

/-- The presence timer starts, with the timeout of the active plan (R140). -/
def State.startPresence (s : State) : State :=
  s.onXp (fun xp => { xp with presenceEnd := some (s.now + s.plan.presenceTimeout) })

/-- The monitor goes to ATTACHED, starts its timer and tells ZA and CU (R142, R144); ZA acts on DETACHED alone. -/
def State.attach (s : State) : State := ((s.startPresence).onXp (fun xp => { xp with attach := .attached })).refreshHelps

/-- What every host write, accepted or refused, does to the monitor before it is served (R140, R142, R157). -/
def State.hostPresent (s : State) : State :=
  match s.xp.attach with
  | .unwatched => s
  | .attached => s.startPresence
  | .detached => s.attach

/-- PRESENCE_TIMER_EXPIRY (R141). -/
def execPresenceTimerExpiry (s : State) : Host.Outcome State Fault Refusal :=
  if s.xp.attach = .attached ∧ expired s.xp.presenceEnd s.now then
    done s
      (((s.onXp (fun xp =>
        { xp with attach := .detached, presenceEnd := none, lapse := count255 xp.lapse })).endInvestigation).refreshHelps)
  else nothing s

/-- The monitor at an activation (R144). -/
def State.presenceTakeUp (s : State) : State :=
  match s.xp.attach with
  | .unwatched => s.attach
  | .attached => s.startPresence
  | .detached => s

/-- UPTIME_TICK (R165): the uptime count advances; the site timer's remaining time follows from it (R27). -/
def execUptimeTick (s : State) : Host.Outcome State Fault Refusal :=
  done s (s.onXp (fun xp => { xp with seconds := xp.seconds + 1 }))

end Sys2Proof.Machine
end

