-- ==== Sys2Proof/Machine/Validate.lean ====
section
/-!
DEFINITION. The 22 validation checks of R149 over a bank, applied by R148 in their numbered order and within each check in ascending record
index; the first failure ends the validation.
-/

namespace Sys2Proof.Machine.PlanBank

/-- The list names something twice. -/
def hasRepeat : List Nat → Bool
  | [] => false
  | x :: xs => xs.contains x || hasRepeat xs

/-- n lies in lo to hi. -/
def within (lo hi n : Nat) : Bool := lo ≤ n && n ≤ hi

/-- How many of the numbers are so marked. -/
def countOf (f : Nat → Bool) (xs : List Nat) : Nat := (xs.filter f).length

/-- The door record is marked planned, whatever its kind byte says. -/
def doorMarked (p : PlanBank) (d : Nat) : Bool := p.doorCode d ≠ 0

/-- Check 1, the header: format mark and counts, each within its table's size because it equals the number marked planned. -/
def failsHeader (p : PlanBank) : Bool :=
  p.formatMark ≠ Config.formatMark
  || p.byte 8 ≠ countOf p.areaPlanned areaNumbers
  || p.byte 9 ≠ countOf p.zonePlanned zoneNumbers
  || p.byte 10 ≠ countOf p.doorMarked doorNumbers
  || p.byte 11 ≠ countOf p.helpPlanned helpNumbers
  || p.byte 12 ≠ countOf p.routePlanned routeNumbers
  || p.byte 13 ≠ countOf p.signPlanned signNumbers
  || p.byte 14 ≠ countOf p.lampPlanned circuitNumbers
  || p.half 16 ≠ countOf p.devicePlanned deviceNumbers

/-- Check 2, a site parameter outside its range (07, 'The plan header and site parameters'); parameter 7 is check 3's. -/
def failsParam (p : PlanBank) (n : Nat) : Bool :=
  match n with
  | 1 => !within 10 300 (p.param 1)
  | 2 => !within 30 900 (p.param 2)
  | 3 => !within 5 120 (p.param 3)
  | 4 => !within 30 600 (p.param 4)
  | 5 => !within 10 120 (p.param 5)
  | 6 => !within 1 2 (p.param 6)
  | 7 => false
  | k =>
    if k % 3 = 2 then !within 2 8 (p.param k)
    else if k % 3 = 0 then !(p.param k = 0 || within 2 15 (p.param k))
    else !within 1 8 (p.param k)

/-- Check 3, the release key set: K1 and K2 in it, no key other than K1 to K4 (so 2 to 4 keys). -/
def failsKeySet (p : PlanBank) : Bool := !(bit (p.param 7) 0 && bit (p.param 7) 1 && p.param 7 < 16)

/-- Check 4, an area's parent, phase interval and closing timeout, and the span of area 0. -/
def failsArea (p : PlanBank) (a : Nat) : Bool :=
  if a = 0 then
    !(p.areaFirst 0 = 1 && p.areaLast 0 = 120) || 900 < p.phaseInterval 0 || !within 60 1800 (p.closingTimeout 0)
  else
    p.areaPlanned a &&
      (!(p.areaParent a < a && p.areaPlanned (p.areaParent a)) || 900 < p.phaseInterval a || !within 60 1800 (p.closingTimeout a))

/-- Check 5, a planned area's range outside its parent's. -/
def failsNesting (p : PlanBank) (a : Nat) : Bool :=
  a ≠ 0 && p.areaPlanned a && !(p.areaFirst (p.areaParent a) ≤ p.areaFirst a && p.areaLast a ≤ p.areaLast (p.areaParent a))

/-- Check 6, area a shares a zone with a lower-numbered area of the same parent. -/
def failsSiblings (p : PlanBank) (a : Nat) : Bool :=
  a ≠ 0 && p.areaPlanned a &&
    areaNumbers.any (fun b => b ≠ 0 && b < a && p.areaPlanned b && p.areaParent b = p.areaParent a
      && p.areaFirst b ≤ p.areaLast a && p.areaFirst a ≤ p.areaLast b)

/-- Check 7, a planned area more than 4 levels deep, the site counting as level 1. -/
def failsDepth (p : PlanBank) (a : Nat) : Bool := p.areaPlanned a && 4 < (p.ancestry 24 a).length

/-- Check 8, a neighbour that is not a planned area, or itself, or named twice (four fields hold at most 4), of a planned area (log entry 47). -/
def failsNeighbours (p : PlanBank) (a : Nat) : Bool :=
  p.areaPlanned a && ((p.neighbours a).any (fun b => b = a || !p.areaPlanned b) || hasRepeat (p.neighbours a))

/-- Check 9, a preference list naming a route that is not planned, or one twice. -/
def failsPreferences (p : PlanBank) (z : Nat) : Bool :=
  p.zonePlanned z && ((p.preferences z).any (fun r => !p.routePlanned r) || hasRepeat (p.preferences z))

/-- Check 10, a planned device of no assigned kind or of a zone that is not planned. -/
def failsDevice (p : PlanBank) (i : Nat) : Bool :=
  p.devicePlanned i && ((p.deviceKind i).isNone || !p.zonePlanned (p.deviceZone i))

/-- Check 11, a poll filter value with a bit set that is clear in its mask. -/
def failsFilter (p : PlanBank) (i : Nat) : Bool :=
  p.devicePlanned i && p.filterValue i &&& p.filterMask i ≠ p.filterValue i

/-- Check 12, a detector's thresholds or confirm count. -/
def failsDetector (p : PlanBank) (i : Nat) : Bool :=
  p.deviceKind i = some .detector &&
    !(p.warnThreshold i < p.dayThreshold i && p.warnThreshold i < p.nightThreshold i && within 1 4 (p.confirmCount i))

/-- Check 13, a loop's order list is not a permutation of its planned addresses. -/
def failsOrderList (p : PlanBank) (l : Nat) : Bool :=
  hasRepeat (p.orderList l)
  || !((p.orderList l).all (fun a => isAddress a && p.devicePlanned (deviceIndex l a)))
  || !(addresses.all (fun a => !p.devicePlanned (deviceIndex l a) || (p.orderList l).contains a))

/-- Check 14, a door's device. -/
def failsDoorDevice (p : PlanBank) (d : Nat) : Bool := p.doorMarked d && p.deviceKind (p.doorDevice d) ≠ some .door

/-- Check 14, a help point's device. -/
def failsHelpDevice (p : PlanBank) (h : Nat) : Bool := p.helpPlanned h && p.deviceKind (p.helpDevice h) ≠ some .help

/-- Check 14, a sign's device. -/
def failsSignDevice (p : PlanBank) (g : Nat) : Bool := p.signPlanned g && p.deviceKind (p.signDevice g) ≠ some .sign

/-- Check 14, a circuit's device. -/
def failsLampDevice (p : PlanBank) (c : Nat) : Bool := p.lampPlanned c && p.deviceKind (p.lampDevice c) ≠ some .lamp

/-- Check 14 for record index k: the door, help point, sign or circuit of that number, where there is one. The help points' numbers span those of the
others. -/
def failsNamedDevice (p : PlanBank) (k : Nat) : Bool :=
  p.failsDoorDevice k || p.failsHelpDevice k || p.failsSignDevice k || p.failsLampDevice k

/-- How many planned records name device i. -/
def timesNamed (p : PlanBank) (i : Nat) : Nat :=
  countOf (fun d => p.doorMarked d && p.doorDevice d = i) doorNumbers
  + countOf (fun h => p.helpPlanned h && p.helpDevice h = i) helpNumbers
  + countOf (fun g => p.signPlanned g && p.signDevice g = i) signNumbers
  + countOf (fun c => p.lampPlanned c && p.lampDevice c = i) circuitNumbers

/-- Check 15, a device named by two planned records, or a DOOR, HELP, SIGN or LAMP device named by none of its kind. -/
def failsNaming (p : PlanBank) (i : Nat) : Bool :=
  1 < p.timesNamed i
  || (match p.deviceKind i with
      | some .door => !(doorNumbers.any (fun d => p.doorMarked d && p.doorDevice d = i))
      | some .help => !(helpNumbers.any (fun h => p.helpPlanned h && p.helpDevice h = i))
      | some .sign => !(signNumbers.any (fun g => p.signPlanned g && p.signDevice g = i))
      | some .lamp => !(circuitNumbers.any (fun c => p.lampPlanned c && p.lampDevice c = i))
      | _ => false)

/-- Check 16, traversed zones (six fields hold at most 6). -/
def failsTraversed (p : PlanBank) (r : Nat) : Bool :=
  p.routePlanned r && ((p.traversed r).any (fun z => !p.zonePlanned z) || hasRepeat (p.traversed r))

/-- Check 17, exit and via doors that are not planned doors (four fields hold at most 4 via doors). -/
def failsRouteDoors (p : PlanBank) (r : Nat) : Bool := p.routePlanned r && (p.routeDoors r).any (fun d => !p.doorMarked d)

/-- Check 18, a STRONG door on a route. -/
def failsStrong (p : PlanBank) (r : Nat) : Bool :=
  p.routePlanned r && (p.routeDoors r).any (fun d => p.doorKind d = some .strong)

/-- Check 19, a route of planned zone z's list that traverses z (log entry 47). -/
def failsOwnRoute (p : PlanBank) (z : Nat) : Bool :=
  p.zonePlanned z && (p.preferences z).any (fun r => (p.traversed r).contains z)

/-- Check 20, a sign's zones and direction map; an unassigned direction fails here (R174). -/
def failsSign (p : PlanBank) (g : Nat) : Bool :=
  p.signPlanned g &&
    (!p.zonePlanned (p.guidedZone g)
    || (p.guardedZone g ≠ 0 && !p.zonePlanned (p.guardedZone g))
    || (p.directionMap g).any (fun q => (directionOfCode q.2).isNone)
    || (p.preferences (p.guidedZone g)).any (fun r => (p.direction g r).isNone))

/-- Check 21, the zones a lamp serves (four fields hold at most 4). -/
def failsLamp (p : PlanBank) (c : Nat) : Bool :=
  p.lampPlanned c &&
    ((p.servedZones c).isEmpty || (p.servedZones c).any (fun z => !p.zonePlanned z) || hasRepeat (p.servedZones c))

/-- Check 22, a door record; an unassigned door kind fails here (R174). -/
def failsDoor (p : PlanBank) (d : Nat) : Bool :=
  p.doorMarked d &&
    ((p.doorKind d).isNone
    || !p.zonePlanned (p.doorZone d)
    || !within 1 3 (p.doorBaseLevel d)
    || !within 1 60 (p.passTime d)
    || !within 10 600 (p.holdLimit d)
    || 7 < p.checkCount d
    || !within 1 3 (p.dayLevel d)
    || (p.doorKind d = some .fire && !within 5 60 (p.closeTime d)))

/-- Check 22, a help point record. -/
def failsHelp (p : PlanBank) (h : Nat) : Bool :=
  p.helpPlanned h && (!p.zonePlanned (p.helpZone h) || !within 1 3 (p.helpBaseLevel h))

/-- The first of the records that fails, with the check's number. -/
def firstFailure (check : Nat) (records : List Nat) (fails : Nat → Bool) : Option (Nat × Nat) :=
  (records.find? fails).map (fun r => (check, r))

/-- R148, R149: the first failing check and its record index; none when every check passes. -/
def validate (p : PlanBank) : Option (Nat × Nat) :=
  firstFailure 1 [0] (fun _ => p.failsHeader)
  <|> firstFailure 2 (List.range' 1 19) p.failsParam
  <|> firstFailure 3 [0] (fun _ => p.failsKeySet)
  <|> firstFailure 4 areaNumbers p.failsArea
  <|> firstFailure 5 areaNumbers p.failsNesting
  <|> firstFailure 6 areaNumbers p.failsSiblings
  <|> firstFailure 7 areaNumbers p.failsDepth
  <|> firstFailure 8 areaNumbers p.failsNeighbours
  <|> firstFailure 9 zoneNumbers p.failsPreferences
  <|> firstFailure 10 deviceNumbers p.failsDevice
  <|> firstFailure 11 deviceNumbers p.failsFilter
  <|> firstFailure 12 deviceNumbers p.failsDetector
  <|> firstFailure 13 [0, 1, 2, 3] p.failsOrderList
  <|> firstFailure 14 helpNumbers p.failsNamedDevice
  <|> firstFailure 15 deviceNumbers p.failsNaming
  <|> firstFailure 16 routeNumbers p.failsTraversed
  <|> firstFailure 17 routeNumbers p.failsRouteDoors
  <|> firstFailure 18 routeNumbers p.failsStrong
  <|> firstFailure 19 zoneNumbers p.failsOwnRoute
  <|> firstFailure 20 signNumbers p.failsSign
  <|> firstFailure 21 circuitNumbers p.failsLamp
  <|> firstFailure 22 doorNumbers p.failsDoor
  <|> firstFailure 22 helpNumbers p.failsHelp

end Sys2Proof.Machine.PlanBank
end

