-- ==== Sys2Proof/Machine/PlanStore.lean ====
section
/-!
DEFINITION. The plan store: committing, validation, waiting, activation and copying (R145 to R155), and the meanings of its commands.
-/

namespace Sys2Proof.Machine

/-- The staged bank, as validation reads it (R148). -/
def State.staged (s : State) : PlanBank := s.bank s.ps.stagedBank

/-- The roles swap and the staged state becomes EDIT (R154). -/
def Ps.activated (ps : Ps) : Ps := { ps with active := some ps.stagedBank, staged := .edit, lastCheck := 0, lastIndex := 0 }

/-- RL and CU take up the new plan after the doors, which have done so since s: what DU and CU have shown stands (R56, R106). -/
def State.callsShown (s : State) (q : TakingUp) : State :=
  s.showCalls (((s.showDoors q.state).routesTakeUp s.plan).callsTakeUp s.plan)

/-- After the doors, which have taken up the new plan since s, RL and CU do; the presence monitor, ZA's closings and the release keys follow, and DU's
alerts arrive (R154). -/
def State.restTakesUp (s : State) (q : TakingUp) : State :=
  let t := s.callsShown q
  (t.showCalls t.presenceTakeUp.closingTakeUp.keysTakeUp).takeAlerts q.alerts

/-- Activation (R154): the roles, the held COMMIT PLAN, then each unit in turn (log entry 11). -/
def State.activate (s : State) : State :=
  s.restTakesUp
    (((((s.onPs Ps.activated).endHeld .plan .ok [wordOf s.staged.identity]).loopsTakeUp s.plan).zonesTakeUp s.plan).doorsTakeUp s.plan)

/-- A commit may activate now: no bank is active, or the site is CALM and no test is held (R150, R151). -/
def State.mayActivate (s : State) : Bool := s.ps.active.isNone || s.quiet

/-- The staged state returns to EDIT (R148, R150, R152, R153). -/
def State.toEdit (s : State) : State := s.onPs (fun ps => { ps with staged := .edit })

/-- The commit after a validation that passed (R150, R151). -/
def State.decideCommit (s : State) : State :=
  if s.mayActivate then s.activate
  else if s.ps.deferred then s.onPs (fun ps => { ps with staged := .waiting })
  else s.toEdit.endHeld .plan .refusedSite []

/-- VALIDATION_END (R148). -/
def execValidationEnd (s : State) : Host.Outcome State Fault Refusal :=
  if s.ps.staged = .checking then
    match s.staged.validate with
    | some (check, index) =>
      done s ((s.onPs (fun ps => { ps with staged := .edit, lastCheck := check, lastIndex := index })).endHeld .plan .invalidPlan
        [wordOf check, wordOf index])
    | none => done s (s.onPs (fun ps => { ps with lastCheck := 0, lastIndex := 0 })).decideCommit
  else nothing s

/-- PS decides again about a commit in WAITING (R151). -/
def State.decideAgain (s : State) : State := if s.ps.staged = .waiting ∧ s.mayActivate then s.activate else s

/-- SEQUENCE_CALM_REPORT (R151): PS takes ZA's report. -/
def execSequenceCalmReport (s : State) : Host.Outcome State Fault Refusal :=
  if 0 < s.ps.calmReports then done s (s.onPs (fun ps => { ps with calmReports := ps.calmReports - 1 })).decideAgain
  else nothing s

/-- TEST_ENDED_REPORT (R151): PS takes RL's report. -/
def execTestEndedReport (s : State) : Host.Outcome State Fault Refusal :=
  if 0 < s.ps.testReports then done s (s.onPs (fun ps => { ps with testReports := ps.testReports - 1 })).decideAgain
  else nothing s

/-- A commit whose plan has passed, or passes, validation, on a site that lets it activate (log entry 10). -/
def State.readyToActivate (s : State) : Bool :=
  s.mayActivate && (s.ps.staged = .waiting || (s.ps.staged = .checking && s.staged.validate.isNone))

/-- ACTIVATION (R154), as a command of its own: it activates a commit that is ready (log entry 10). -/
def execActivation (s : State) : Host.Outcome State Fault Refusal :=
  if s.readyToActivate then done s s.activate else nothing s

/-- COMMIT PLAN (R147). -/
def commitPlan (deferred : Bool) (s : State) : Ending :=
  if s.ps.staged = .edit then .held (s.onPs (fun ps => { ps with staged := .checking, deferred := deferred })) .plan
  else .completes s .refusedState []

/-- COMMIT_PLAN (R147). -/
def execCommitPlan (s : State) : Host.Outcome State Fault Refusal :=
  workOn (fun | .commitPlan deferred => some (commitPlan deferred) | _ => none) s

/-- The active bank copied over the staged bank (R155). -/
def State.copyActive (s : State) : State :=
  match s.ps.active with
  | none => s
  | some bank => s.onMem (fun m => m.copy bank.base s.ps.stagedBank.base Config.bankSize)

/-- COPY PLAN (R155). -/
def copyPlan (s : State) : Ending :=
  if s.ps.staged = .edit then .completes s.copyActive .ok [] else .completes s .refusedState []

/-- COPY_PLAN (R155). -/
def execCopyPlan (s : State) : Host.Outcome State Fault Refusal :=
  workOn (fun | .copyPlan => some copyPlan | _ => none) s

end Sys2Proof.Machine
end

