-- ==== Sys2Proof/Machine/Exchange.lean ====
section
/-!
DEFINITION. The exchange port: host writes and their permissions, the handover of slots, the registers and the resets (R156 to R160, R165 to
R173), and the meanings of the host's and the board's commands.
-/

namespace Sys2Proof.Machine

/-! ### Refused writes (R158) -/

/-- The capture after a refused write (R158). -/
def Capture.add (reason : RefusedReason) (offset : BitVec 15) (value : Word) (c : Capture) : Capture :=
  if c.count = 0 then { reason := some reason, offset := offset, value := value, count := 1 }
  else { c with count := count255 c.count }

/-- A refused write is dropped; the capture is rewritten and NOTICE.WRITE set (R158). -/
def State.refuse (reason : RefusedReason) (offset : BitVec 15) (value : Word) (s : State) : State :=
  s.onXp (fun xp =>
    { xp with
      capture := xp.capture.add reason offset value, captureCount := xp.captureCount + 2, notice := xp.notice ||| causeBit true 7 })

/-! ### Slots (R159, R160) -/

/-- Places n behind the last URGENT slot of the queue, or at its head (R160). -/
def behindUrgent (urgent : Nat → Bool) (n : Nat) : List Nat → List Nat
  | [] => [n]
  | m :: q => if (m :: q).any urgent then m :: behindUrgent urgent n q else n :: m :: q

/-- The order in slot n arrives (R159, R160). -/
def Ou.arrive (n : Nat) (ou : Ou) : Ou :=
  { ou with
    queue := if (ou.slots.get n).urgent then behindUrgent (fun m => (ou.slots.get m).urgent) n ou.queue else ou.queue ++ [n]
    slots := ou.slots.modify n (fun x => { x with handover := .committed }) }

/-- The host withdraws slot n (R159). -/
def Ou.withdraw (n : Nat) (ou : Ou) : Ou :=
  { ou with queue := ou.queue.filter (fun m => m ≠ n), slots := ou.slots.modify n (fun x => { x with handover := .free }) }

/-- The host gives slot n back (R159). -/
def Ou.giveBack (n : Nat) (ou : Ou) : Ou := { ou with slots := ou.slots.modify n (fun x => { x with handover := .free }) }

/-- What a write to a handover word does; none where it is refused with reason STATE (R159). -/
def Ou.handover (n : Nat) (value : Word) (ou : Ou) : Option Ou :=
  match (ou.slots.get n).handover with
  | .free => if value = 1 then some (ou.arrive n) else none
  | .committed => if value = 0 then some (ou.withdraw n) else none
  | .taken => none
  | .done => if value = 0 then some (ou.giveBack n) else none

/-- Header word k other than the handover word, or an argument word, as a write leaves it; spare bits read 0 (R174; log entry 9). -/
def Slot.write (k : Nat) (value : Word) (x : Slot) : Slot :=
  match k with
  | 1 => { x with code := value }
  | 2 => { x with urgent := value.getLsbD 0 }
  | 3 => { x with argCount := value.extractLsb' 0 8, tag := value.extractLsb' 16 16 }
  | k => { x with args := x.args.set (k - 4) value }

/-- A host write of word k of slot n (R157). -/
def State.writeSlot (n k : Nat) (offset : BitVec 15) (value : Word) (s : State) : State :=
  if k = 0 then
    match s.ou.handover n value with
    | some ou => s.onOu (fun _ => ou)
    | none => s.refuse .state offset value
  else if k < 9 then
    (if (s.slot n).handover = .free then s.setSlot n (Slot.write k value) else s.refuse .state offset value)
  else s.refuse .protectedWord offset value

/-! ### Banks and registers (R143, R146, R167, R169 to R171) -/

/-- A host write to a word of a bank (R146, R157); the bank that is neither active nor staged is not written (log entry 35). -/
def State.writeBank (bank : Bank) (offset : BitVec 15) (value : Word) (s : State) : State :=
  if bank = s.ps.stagedBank then
    (if s.ps.staged = .edit then s.onMem (fun m => m.writeWord offset.toNat value) else s.refuse .state offset value)
  else s.refuse .protectedWord offset value

/-- The change summary bits that stand for a record, in one word (R167). -/
def summaryFull (i : Nat) : Word := if i < 26 then 0xFFFFFFFF#32 else if i = 26 then 0x001FFFFF#32 else 0

/-- A host write to a change summary word: each 1 clears its bit (R167). -/
def State.clearSummary (i : Nat) (value : Word) (s : State) : State :=
  s.onXp (fun xp => { xp with summary := xp.summary.modify i (fun w => w &&& ~~~value) })

/-- A host write to CONTROL with IFACE_RESET 0 (R171). -/
def State.writeLineEnable (value : Word) (s : State) : State := s.onXp (fun xp => { xp with lineEnable := value.getLsbD 0 })

/-- A host write to NOTICE: each 1 clears its cause (R169). -/
def State.clearNotice (value : Word) (s : State) : State :=
  s.onXp (fun xp => { xp with notice := xp.notice &&& ~~~(value.extractLsb' 0 8) })

/-- A host write to NOTICE MASK (R170). -/
def State.writeMask (value : Word) (s : State) : State := s.onXp (fun xp => { xp with mask := value.extractLsb' 0 8 })

/-- XP's part of an interface reset, the presence timer aside (R173). DESIGN CHOICE, log entry 56: the emptied capture, of which the spec gives count 0
and reason 0 alone (R158, 09), reads offset 0 and value 0 too. -/
def Xp.ifaceReset (xp : Xp) : Xp :=
  { xp with
    notice := 0, mask := 0, lineEnable := false, capture := .empty, summary := xp.summary.map (fun i _ => summaryFull i) }

/-- OU's part of an interface reset: an order being worked on runs on without its slot (R173). -/
def Ou.ifaceReset (ou : Ou) : Ou :=
  { slots := .fill .zero, queue := [], held := [], working := ou.working.map (fun w => { w with slot := none }) }

/-- The interface reset (R153, R173). No change count moves (R166; log entry 6). -/
def State.ifaceReset (s : State) : State := ((s.onXp Xp.ifaceReset).onOu Ou.ifaceReset).toEdit

/-! ### The host's writes (R156, R157) -/

/-- A host write of an aligned word, other than one that requests an interface reset, served after the presence monitor has acted. -/
def State.serveWord (offset : BitVec 15) (value : Word) (s : State) : State :=
  let o := offset.toNat
  if o < Config.slotBase then
    (if Config.summaryBase ≤ o ∧ o < Config.summaryBase + 4 * Config.summaryWords then
      s.clearSummary ((o - Config.summaryBase) / 4) value
     else s.refuse .protectedWord offset value)
  else if o < Config.liveBase then s.writeSlot ((o - Config.slotBase) / 64) ((o - Config.slotBase) % 64 / 4) offset value
  else if o < Config.bankABase then s.refuse .protectedWord offset value
  else if o < Config.bankBBase then s.writeBank .a offset value
  else if o < Config.bankBBase + Config.bankSize then s.writeBank .b offset value
  else if o = Config.identOffset then s.refuse .protectedWord offset value
  else if o = Config.controlOffset then s.writeLineEnable value
  else if o = Config.noticeOffset then s.clearNotice value
  else if o = Config.noticeMaskOffset then s.writeMask value
  else if o = Config.presenceOffset then s
  else s.refuse .unassigned offset value

/-- The access is an aligned 32-bit word (R156). -/
def alignedWord (offset : BitVec 15) (size : AccessSize) : Bool := size = .word && offset.toNat % 4 = 0

/-- The write requests an interface reset (R171): CONTROL with bit 1 set. -/
def requestsReset (offset : BitVec 15) (value : Word) : Bool := offset.toNat = Config.controlOffset && value.getLsbD 1

/-- A host write, whole: the presence monitor first (R142), then the write by the permissions in force (R157). DESIGN CHOICE, log entry 52: a write
that is no aligned word is refused with reason SIZE wherever it falls, so also where R156 gives reason UNASSIGNED or R157 another for its address. -/
def hostWrite (offset : BitVec 15) (size : AccessSize) (value : Word) (s : State) : Host.Outcome State Fault Refusal :=
  if alignedWord offset size then
    (if requestsReset offset value then .next (publish s s.hostPresent).ifaceReset
     else done s (s.hostPresent.serveWord offset value))
  else done s (s.hostPresent.refuse .size offset value)

/-- Window offset of word k of slot n (09). -/
def slotOffset (n : Nat) : BitVec 15 := BitVec.ofNat 15 (Config.slotBase + 64 * n)

/-- HOST_WRITE (R157). -/
def execHostWrite (offset : BitVec 15) (size : AccessSize) (value : Word) (s : State) : Host.Outcome State Fault Refusal :=
  hostWrite offset size value s

/-- COMMIT (R159). -/
def execCommit (n : Nat) (s : State) : Host.Outcome State Fault Refusal :=
  if isSlot n then hostWrite (slotOffset n) .word 1 s else nothing s

/-- WITHDRAWAL (R159). -/
def execWithdrawal (n : Nat) (s : State) : Host.Outcome State Fault Refusal :=
  if isSlot n then hostWrite (slotOffset n) .word 0 s else nothing s

/-- GIVE_BACK (R159). -/
def execGiveBack (n : Nat) (s : State) : Host.Outcome State Fault Refusal :=
  if isSlot n then hostWrite (slotOffset n) .word 0 s else nothing s

/-- CHANGE_SUMMARY_CLEAR (R167). -/
def execChangeSummaryClear (i : Nat) (value : Word) (s : State) : Host.Outcome State Fault Refusal :=
  if isSummaryWord i then hostWrite (BitVec.ofNat 15 (Config.summaryBase + 4 * i)) .word value s else nothing s

/-- NOTICE_CLEAR (R169). -/
def execNoticeClear (value : Word) (s : State) : Host.Outcome State Fault Refusal :=
  hostWrite (BitVec.ofNat 15 Config.noticeOffset) .word value s

/-- NOTICE_MASK_WRITE (R170). -/
def execNoticeMaskWrite (value : Word) (s : State) : Host.Outcome State Fault Refusal :=
  hostWrite (BitVec.ofNat 15 Config.noticeMaskOffset) .word value s

/-- PRESENCE_WRITE (R143). -/
def execPresenceWrite (value : Word) (s : State) : Host.Outcome State Fault Refusal :=
  hostWrite (BitVec.ofNat 15 Config.presenceOffset) .word value s

/-- LINE_ENABLE (R171). -/
def execLineEnable (on : Bool) (s : State) : Host.Outcome State Fault Refusal :=
  hostWrite (BitVec.ofNat 15 Config.controlOffset) .word (if on then 1 else 0) s

/-- IFACE_RESET (R173); the LINE_ENABLE bit of the same write has no effect (R171). -/
def execIfaceReset (lineEnable : Bool) (s : State) : Host.Outcome State Fault Refusal :=
  hostWrite (BitVec.ofNat 15 Config.controlOffset) .word (if lineEnable then 3 else 2) s

/-- COLD_RESET (R172); the commands waiting and the key pins stand outside the part (log entry 27). -/
def execColdReset (s : State) : Host.Outcome State Fault Refusal :=
  .next { State.reset with pending := s.pending, du := { Du.reset with keyInput := s.du.keyInput } }

end Sys2Proof.Machine
end

