-- ==== Sys2Proof/Machine/OrderUnit.lean ====
section
/-!
DEFINITION. The order unit's own work: the take of an order (R161) and CANCEL (R164).
-/

namespace Sys2Proof.Machine

/-- A slot as the take leaves it: TAKEN, its result area zeroed (R161). -/
def Slot.taken (x : Slot) : Slot := { x with handover := .taken, completion := .none, doneTag := 0, results := .fill 0 }

/-- OU takes slot n from the head of the queue and makes the generic checks (R161). -/
def State.takeSlot (n : Nat) (s : State) : State :=
  let s1 := s.onOu (fun ou => { ou with queue := ou.queue.tail, slots := ou.slots.modify n Slot.taken })
  match genericChecks s (s.slot n) with
  | .error code => s1.onOu (Ou.complete n code [])
  | .ok order => s1.onOu (fun ou => { ou with working := some { slot := some n, order := order, tag := (s.slot n).tag } })

/-- TAKE (R161). -/
def execTake (s : State) : Host.Outcome State Fault Refusal :=
  match s.ou.working, s.ou.queue with
  | none, n :: _ => done s (s.takeSlot n)
  | _, _ => nothing s

/-- The result words a held order's owner gives at a CANCEL: the two words of R128 for a lighting test, none otherwise (R164). -/
def State.cancelWords (s : State) : HeldOwner → List Word
  | .lights =>
    match s.rl.test with
    | some t => [0, t.failMask]
    | none => []
  | _ => []

/-- The owner acts on the end of its held order (R164): a roll-call runs on, a test is ended, a commit returns to EDIT. -/
def State.ownerEnds (owner : HeldOwner) (s : State) : State :=
  match owner with
  | .loop _ => s
  | .lights => (s.abortTest .cancelled).handLamps
  | .plan => s.toEdit

/-- A held order is ended by CANCEL: its entry is removed, its owner acts, its slot completes CANCELLED (R164). -/
def State.cancelHeld (h : HeldOrder) (s : State) : State :=
  ((s.onOu (fun ou => { ou with held := ou.held.filter (fun x => x.slot ≠ h.slot) })).ownerEnds h.owner).onOu
    (Ou.complete h.slot .cancelled (s.cancelWords h.owner))

/-- CANCEL, whose own slot is `own` (R164; a TAKEN target without an entry: log entry 21). -/
def cancel (own : Option Nat) (n : Nat) (s : State) : Ending :=
  if own = some n then .completes s .malformed []
  else
    match (s.slot n).handover with
    | .free => .completes s .noSuch []
    | .committed => .completes s .noSuch []
    | .done => .completes s .kept []
    | .taken =>
      match s.ou.held.find? (fun h => h.slot = n) with
      | none => .completes s .noSuch []
      | some h => .completes (s.cancelHeld h) .ok []

/-- CANCEL (R164). -/
def execCancel (s : State) : Host.Outcome State Fault Refusal :=
  workOn (fun | .cancel n => some (cancel (s.ou.working.bind Working.slot) n) | _ => none) s

end Sys2Proof.Machine
end

