-- ==== Sys2Proof/Machine/Dispatch.lean ====
section
/-!
DEFINITION. One arm per command: its meaning.
-/

namespace Sys2Proof.Machine

def exec (i : Instr) (s : State) : Host.Outcome State Fault Refusal :=
  match i with
    | .coldReset => Sys2Proof.Machine.execColdReset s
    | .ifaceReset lineEnable => Sys2Proof.Machine.execIfaceReset lineEnable s
    | .lineEnable on => Sys2Proof.Machine.execLineEnable on s
    | .noticeClear value => Sys2Proof.Machine.execNoticeClear value s
    | .noticeMaskWrite value => Sys2Proof.Machine.execNoticeMaskWrite value s
    | .presenceWrite value => Sys2Proof.Machine.execPresenceWrite value s
    | .changeSummaryClear index value => Sys2Proof.Machine.execChangeSummaryClear index value s
    | .commit slot => Sys2Proof.Machine.execCommit slot s
    | .withdrawal slot => Sys2Proof.Machine.execWithdrawal slot s
    | .giveBack slot => Sys2Proof.Machine.execGiveBack slot s
    | .hostWrite offset size value => Sys2Proof.Machine.execHostWrite offset size value s
    | .take => Sys2Proof.Machine.execTake s
    | .cancel => Sys2Proof.Machine.execCancel s
    | .acknowledge => Sys2Proof.Machine.execAcknowledge s
    | .silence => Sys2Proof.Machine.execSilence s
    | .resound => Sys2Proof.Machine.execResound s
    | .evacuate => Sys2Proof.Machine.execEvacuate s
    | .resetSite => Sys2Proof.Machine.execResetSite s
    | .isolateZone => Sys2Proof.Machine.execIsolateZone s
    | .restoreZone => Sys2Proof.Machine.execRestoreZone s
    | .testZone => Sys2Proof.Machine.execTestZone s
    | .setRegime => Sys2Proof.Machine.execSetRegime s
    | .startLoop => Sys2Proof.Machine.execStartLoop s
    | .stopLoop => Sys2Proof.Machine.execStopLoop s
    | .isolateDevice => Sys2Proof.Machine.execIsolateDevice s
    | .restoreDevice => Sys2Proof.Machine.execRestoreDevice s
    | .passDoor => Sys2Proof.Machine.execPassDoor s
    | .holdDoor => Sys2Proof.Machine.execHoldDoor s
    | .releaseHold => Sys2Proof.Machine.execReleaseHold s
    | .lockdown => Sys2Proof.Machine.execLockdown s
    | .endLockdown => Sys2Proof.Machine.execEndLockdown s
    | .clearPull => Sys2Proof.Machine.execClearPull s
    | .isolateDoor => Sys2Proof.Machine.execIsolateDoor s
    | .restoreDoor => Sys2Proof.Machine.execRestoreDoor s
    | .attendCall => Sys2Proof.Machine.execAttendCall s
    | .closeCall => Sys2Proof.Machine.execCloseCall s
    | .setCallLevel => Sys2Proof.Machine.execSetCallLevel s
    | .barRoute => Sys2Proof.Machine.execBarRoute s
    | .unbarRoute => Sys2Proof.Machine.execUnbarRoute s
    | .testLights => Sys2Proof.Machine.execTestLights s
    | .stopTest => Sys2Proof.Machine.execStopTest s
    | .commitPlan => Sys2Proof.Machine.execCommitPlan s
    | .copyPlan => Sys2Proof.Machine.execCopyPlan s
    | .validationEnd => Sys2Proof.Machine.execValidationEnd s
    | .sequenceCalmReport => Sys2Proof.Machine.execSequenceCalmReport s
    | .testEndedReport => Sys2Proof.Machine.execTestEndedReport s
    | .activation => Sys2Proof.Machine.execActivation s
    | .callOut loop shortA shortB => Sys2Proof.Machine.execCallOut loop shortA shortB s
    | .answer loop segment addr atA atB => Sys2Proof.Machine.execAnswer loop segment addr atA atB s
    | .sweepEnd loop => Sys2Proof.Machine.execSweepEnd loop s
    | .releaseBroadcast loop shortA shortB => Sys2Proof.Machine.execReleaseBroadcast loop shortA shortB s
    | .keyInputChange key operated => Sys2Proof.Machine.execKeyInputChange key operated s
    | .keyFilterExpiry key => Sys2Proof.Machine.execKeyFilterExpiry key s
    | .tAckExpiry => Sys2Proof.Machine.execTAckExpiry s
    | .tSearchExpiry => Sys2Proof.Machine.execTSearchExpiry s
    | .phaseTimerExpiry area => Sys2Proof.Machine.execPhaseTimerExpiry area s
    | .closingTimerExpiry area => Sys2Proof.Machine.execClosingTimerExpiry area s
    | .presenceTimerExpiry => Sys2Proof.Machine.execPresenceTimerExpiry s
    | .callAgeing entry => Sys2Proof.Machine.execCallAgeing entry s
    | .returnHoldExpiry zone => Sys2Proof.Machine.execReturnHoldExpiry zone s
    | .passExpiry door => Sys2Proof.Machine.execPassExpiry door s
    | .doorHoldTimerExpiry door => Sys2Proof.Machine.execDoorHoldTimerExpiry door s
    | .lockSenseTimerExpiry door => Sys2Proof.Machine.execLockSenseTimerExpiry door s
    | .closeTimerExpiry door => Sys2Proof.Machine.execCloseTimerExpiry door s
    | .rechargeExpiry circuit => Sys2Proof.Machine.execRechargeExpiry circuit s
    | .testEndTime => Sys2Proof.Machine.execTestEndTime s
    | .uptimeTick => Sys2Proof.Machine.execUptimeTick s
    | .zoneAlarmMessage => Sys2Proof.Machine.execZoneAlarmMessage s
    | .effectivePhaseMessage => Sys2Proof.Machine.execEffectivePhaseMessage s
    | .doorConditionMessage => Sys2Proof.Machine.execDoorConditionMessage s
    | .evacClaimRequest => Sys2Proof.Machine.execEvacClaimRequest s

end Sys2Proof.Machine
end

