-- ==== Sys2Proof/Machine/Step.lean ====
section
/-!
DEFINITION. One step of the block: the command at the front of the queue is carried out on the rest.
-/

namespace Sys2Proof.Machine

/-- The part with one command fewer waiting. -/
def State.withPending (q : List Instr) (s : State) : State := { s with pending := q }

/-- One step. With no command waiting the block idles (log entry 28). -/
def step (s : State) : Host.Outcome State Fault Refusal :=
  match s.pending with
  | [] => .next s
  | c :: rest => exec c (s.withPending rest)

/-- The command a word spells, put at the front of the queue; no word spells one, since the table gives no row bits (log entry 29). -/
def State.withFetchWord (s : State) (nbits w : Nat) : State :=
  match decodeTableWord nbits w with
  | none => s
  | some c => s.withPending (c :: s.pending)

end Sys2Proof.Machine
end

