-- ==== Sys2Proof/Safety.lean ====
section
/-!
DEFINITION. The words the statements about the part are made of: what a command leaves unchanged, how an order ends, what a host write does to
the presence monitor, and the invariants that every step keeps.
-/

namespace Sys2Proof.Machine

/-! ### What a command leaves unchanged -/

/-- The blocks of the state (00_scope, 'Blocks'), with the messages on their way, the plan banks and the queue of commands. -/
inductive Block where
  | xp
  | ou
  | ps
  | lc
  | za
  | du
  | cu
  | rl
  | mail
  | mem
  | pending
deriving DecidableEq, Repr

/-- A block is the same in two states. -/
def Block.same (b : Block) (s t : State) : Prop :=
  match b with
  | .xp => t.xp = s.xp
  | .ou => t.ou = s.ou
  | .ps => t.ps = s.ps
  | .lc => t.lc = s.lc
  | .za => t.za = s.za
  | .du => t.du = s.du
  | .cu => t.cu = s.cu
  | .rl => t.rl = s.rl
  | .mail => t.mail = s.mail
  | .mem => t.mem = s.mem
  | .pending => t.pending = s.pending

/-- Each block of a list is unchanged. -/
def Keeps (bs : List Block) (s t : State) : Prop := ∀ b ∈ bs, b.same s t

/-- Every register of XP that only the host, the clock and the presence monitor move is unchanged; the change counts, the change summaries and
NOTICE may follow what the units did (R166, R167, R169). -/
def PortKept (s t : State) : Prop :=
  t.xp.seconds = s.xp.seconds ∧ t.xp.lineEnable = s.xp.lineEnable ∧ t.xp.mask = s.xp.mask ∧ t.xp.attach = s.xp.attach ∧
    t.xp.presenceEnd = s.xp.presenceEnd ∧ t.xp.lapse = s.xp.lapse ∧ t.xp.capture = s.xp.capture ∧
    t.xp.captureCount = s.xp.captureCount

/-- NOTICE cause `i` is set (R169; numbered as in 09). -/
def Noticed (i : Nat) (t : State) : Prop := t.xp.notice.getLsbD i = true

/-- The blocks of the units, the messages, the banks and the queue: everything but XP and OU. -/
def unitBlocks : List Block := [.ps, .lc, .za, .du, .cu, .rl, .mail, .mem, .pending]

/-! ### How an order ends (R162, R163) -/

/-- The result area of a slot, and nothing else of it, carries a completion. -/
def Slot.CompletedAs (x y : Slot) (code : Completion) (words : List Word) : Prop :=
  y.handover = .done ∧ y.completion = code ∧ y.doneTag = x.tag ∧
    (∀ k, 1 ≤ k → k ≤ 6 → y.results.get k = words.getD (k - 1) 0) ∧
    y.code = x.code ∧ y.urgent = x.urgent ∧ y.argCount = x.argCount ∧ y.tag = x.tag ∧ y.args = x.args

/-- OU is working on order `o` of the TAKEN slot `n`, and the order's arguments name what the active plan plans. -/
def Works (s : State) (n : Nat) (o : Order) : Prop :=
  isSlot n = true ∧ (s.slot n).handover = .taken ∧ (∃ tag, s.ou.working = some { slot := some n, order := o, tag := tag }) ∧
    o.argsOk s.plan = true

/-- The order of slot `n` has ended: its slot is complete, NOTICE.ORDER is set, OU is free, and the commit queue, the held-order list and every
other slot are as they were. -/
def OrderEnds (s t : State) (n : Nat) (code : Completion) (words : List Word) : Prop :=
  (s.slot n).CompletedAs (t.slot n) code words ∧ Noticed 0 t ∧ t.ou.working = none ∧ t.ou.queue = s.ou.queue ∧ t.ou.held = s.ou.held ∧
    ∀ m, m ≠ n → t.slot m = s.slot m

/-- The order of slot `n` has become held: the slot stays TAKEN, the held-order list gains its entry, and OU is free. -/
def OrderHeld (s t : State) (n : Nat) (owner : HeldOwner) : Prop :=
  t.ou = { s.ou with held := s.ou.held ++ [{ slot := n, owner := owner }], working := none }

/-- The command that carries out an order. -/
def Order.command : Order → Instr
  | .cancel _ => .cancel
  | .acknowledge => .acknowledge
  | .silence => .silence
  | .resound => .resound
  | .evacuate _ => .evacuate
  | .resetSite => .resetSite
  | .isolateZone _ => .isolateZone
  | .restoreZone _ => .restoreZone
  | .testZone _ => .testZone
  | .setRegime _ _ => .setRegime
  | .startLoop _ => .startLoop
  | .stopLoop _ => .stopLoop
  | .isolateDevice _ _ => .isolateDevice
  | .restoreDevice _ _ => .restoreDevice
  | .passDoor _ _ => .passDoor
  | .holdDoor _ _ => .holdDoor
  | .releaseHold _ => .releaseHold
  | .lockdown _ => .lockdown
  | .endLockdown _ => .endLockdown
  | .clearPull _ => .clearPull
  | .isolateDoor _ => .isolateDoor
  | .restoreDoor _ => .restoreDoor
  | .attendCall _ => .attendCall
  | .closeCall _ => .closeCall
  | .setCallLevel _ _ => .setCallLevel
  | .barRoute _ => .barRoute
  | .unbarRoute _ => .unbarRoute
  | .testLights _ _ _ => .testLights
  | .stopTest => .stopTest
  | .commitPlan _ => .commitPlan
  | .copyPlan => .copyPlan

/-- The order that OU is working on has slot `n`, TAKEN and in no queue: the state that it would be in had no interface reset taken its slot (R173). -/
def State.withSlot (n : Nat) (s : State) : State :=
  s.onOu (fun ou =>
    { ou with
      slots := ou.slots.modify n (fun x => { x with handover := .taken })
      queue := ou.queue.filter (fun m => m ≠ n)
      working := ou.working.map (fun w => { w with slot := some n }) })

/-! ### The presence monitor (R140, R142) -/

/-- What a host write, accepted or refused, does to the presence monitor before it is served, and to nothing else of the part: in DETACHED the help
points' indicators are decided again (R142), which moves CU's indicators and the outputs the loop controllers hold. -/
def HostSeen (s t : State) : Prop :=
  (if s.xp.attach = .unwatched then t.xp.attach = .unwatched ∧ t.xp.presenceEnd = s.xp.presenceEnd
    else t.xp.attach = .attached ∧ t.xp.presenceEnd = some (s.now + s.plan.presenceTimeout)) ∧
  t.xp.lapse = s.xp.lapse ∧ t.xp.seconds = s.xp.seconds ∧
  (s.xp.attach ≠ .detached → Keeps [.lc, .cu] s t) ∧
  { t.cu with helps := s.cu.helps } = s.cu ∧ t.lc.loops = s.lc.loops ∧ Keeps [.za, .du, .rl, .mail, .pending] s t

/-- What the registers and the capture of XP hold; the change counts and the lapse count aside. -/
def PortIs (t : State) (line : Bool) (mask notice : Byte) (summary : Table Word 0 27) (capture : Capture) : Prop :=
  t.xp.lineEnable = line ∧ t.xp.mask = mask ∧ t.xp.notice = notice ∧ t.xp.summary = summary ∧ t.xp.capture = capture

/-- R156, R157 and R171 as one table: the reason for which a host write is refused, none where it is accepted. The bank that is neither active nor
staged, bank B while no bank is active, follows log entry 35; that reason SIZE comes before every other is log entry 52 (both DESIGN CHOICE). -/
def State.writeRefusal (s : State) (offset : BitVec 15) (size : AccessSize) (value : Word) : Option RefusedReason :=
  let o := offset.toNat
  if size ≠ .word ∨ o % 4 ≠ 0 then some .size
  else if o < 0x0080 then some .protectedWord
  else if o < 0x00EC then none
  else if o < 0x0200 then some .protectedWord
  else if o < 0x0800 then
    let slot := s.slot ((o - 0x0200) / 64)
    let k := (o - 0x0200) % 64 / 4
    if k = 0 then
      (match slot.handover with
      | .free => if value = 1 then none else some .state
      | .committed => if value = 0 then none else some .state
      | .taken => some .state
      | .done => if value = 0 then none else some .state)
    else if k ≤ 8 then (if slot.handover = .free then none else some .state)
    else some .protectedWord
  else if o < 0x2800 then some .protectedWord
  else if o < 0x7800 then
    let bank : Bank := if o < 0x5000 then .a else .b
    if s.ps.active = some bank then some .protectedWord
    else if s.ps.active = none ∧ bank = .b then some .protectedWord
    else if s.ps.staged = .edit then none else some .state
  else if o = 0x7FE0 then some .protectedWord
  else if o = 0x7FE4 ∨ o = 0x7FE8 ∨ o = 0x7FEC ∨ o = 0x7FF0 then none
  else some .unassigned

/-- The command is a cold reset or requests an interface reset (R171, R172). -/
def resets : Instr → Bool
  | .coldReset => true
  | .ifaceReset _ => true
  | .hostWrite offset size value => alignedWord offset size && requestsReset offset value
  | _ => false

/-! ### Activation (R144, R154) -/

/-- The staged plan has become the active plan: the roles, the plan status, the held COMMIT PLAN of slot `n`, the presence monitor. -/
def Activated (s t : State) (n : Nat) : Prop :=
  t.ps.active = some s.ps.stagedBank ∧ t.ps.staged = .edit ∧ t.ps.lastCheck = 0 ∧ t.ps.lastIndex = 0 ∧ t.mem = s.mem ∧
    (s.slot n).CompletedAs (t.slot n) .ok [wordOf s.staged.identity] ∧ (∀ h ∈ t.ou.held, h.slot ≠ n) ∧ Noticed 0 t ∧ Noticed 6 t ∧
    (s.xp.attach ≠ .detached → t.xp.attach = .attached ∧ t.xp.presenceEnd = some (s.now + t.plan.presenceTimeout)) ∧
    (s.xp.attach = .detached → t.xp.attach = .detached ∧ t.xp.presenceEnd = s.xp.presenceEnd)

/-! ### Invariants -/

/-- The plan banks keep their canonical form and list no offset outside the two banks. -/
def MemoryOk (s : State) : Prop :=
  s.mem.wf ∧ ∀ c ∈ s.mem, Config.bankABase ≤ c.1 ∧ c.1 < Config.bankBBase + Config.bankSize

/-- The commit queue holds exactly the slots whose handover state is COMMITTED, each at most once (R160); the slot of the order being worked on is
TAKEN and not held; the held orders have distinct TAKEN slots (R162, R163). -/
def SlotsOk (s : State) : Prop :=
  s.ou.queue.Nodup ∧ (∀ n, n ∈ s.ou.queue ↔ isSlot n = true ∧ (s.slot n).handover = .committed) ∧
    (∀ w n, s.ou.working = some w → w.slot = some n →
      isSlot n = true ∧ (s.slot n).handover = .taken ∧ n ∉ s.ou.held.map HeldOrder.slot) ∧
    (∀ h ∈ s.ou.held, isSlot h.slot = true ∧ (s.slot h.slot).handover = .taken) ∧ (s.ou.held.map HeldOrder.slot).Nodup

/-- A held order's operation is running: the loop is in ROLLCALL, a lighting test is held, a commit is in CHECKING or WAITING (R162). -/
def HeldOwner.running (s : State) : HeldOwner → Prop
  | .loop l => isLoop l = true ∧ (s.loop l).state = .rollcall
  | .lights => s.rl.test.isSome = true
  | .plan => s.ps.staged ≠ .edit

/-- Each entry of the held-order list has an operation of its own that is running (R163). -/
def HeldOk (s : State) : Prop :=
  (s.ou.held.map HeldOrder.owner).Nodup ∧ ∀ h ∈ s.ou.held, h.owner.running s

/-- Every TAKEN slot is that of the order OU is working on or of a held order (R162). -/
def TakenOk (s : State) : Prop :=
  ∀ n, isSlot n = true → (s.slot n).handover = .taken →
    (∃ w, s.ou.working = some w ∧ w.slot = some n) ∨ n ∈ s.ou.held.map HeldOrder.slot

/-- The order unit as a whole. -/
def OrdersOk (s : State) : Prop := SlotsOk s ∧ HeldOk s ∧ TakenOk s

/-- The alarm records of ZA agree with one another: the first-alarm list holds each zone in ALARM once (R26); in CALM, and while no plan is active, no
zone is in ALARM, and in CALM every area is in phase NONE with no phase timer; an investigation has its trigger zone (R16); and every zone's effective
phase is the highest of the areas containing it (R12). -/
def AlarmsOk (s : State) : Prop :=
  s.za.first.Nodup ∧ (∀ z, z ∈ s.za.first ↔ isZone z = true ∧ (s.zone z).cond = .alarm) ∧
    (s.za.seq = .calm → s.za.first = [] ∧ ∀ a, isArea a = true → (s.area a).phase = .none ∧ (s.area a).phaseEnd = none) ∧
    (s.ps.active = none → s.za.first = []) ∧ (s.za.seq = .awaitAck ∨ s.za.seq = .searching → s.za.first ≠ []) ∧
    ∀ z, isZone z = true → (s.zone z).phase = s.phaseNow z

/-- Only a plan that has passed validation is active or waits for activation (R148, R150, R151, R154). -/
def PlanOk (s : State) : Prop :=
  (∀ bank, s.ps.active = some bank → (s.bank bank).validate = none) ∧ (s.ps.staged = .waiting → s.staged.validate = none)

/-- The call list keeps the bounds of R85: at most 32 calls, of distinct sources, serials and entries; a waiting mark only on a source without a call
while the list is full; the offer as R95 decides it; and every planned help point's indicator as R103 gives it. -/
def CallsOk (s : State) : Prop :=
  s.cu.calls.length ≤ 32 ∧ (s.cu.calls.map Call.source).Nodup ∧ (s.cu.calls.map Call.serial).Nodup ∧
    (s.cu.calls.map Call.entry).Nodup ∧ (∀ c ∈ s.cu.calls, c.entry < 32 ∧ 1 ≤ c.serial ∧ c.serial ≤ 65535) ∧
    (∀ n, (s.cu.sources.get n).pending.isSome = true → s.cu.calls.length = 32 ∧ ∀ c ∈ s.cu.calls, c.source ≠ n) ∧
    s.cu.decideOffer s.plan.nested = s.cu ∧
    ∀ h, s.plan.helpPlanned h = true → (s.cu.helps.get h).indicator = some (s.indicatorOf h)

/-- RL's records follow from what it holds: every planned route is usable as R108 gives it; a selected route is a usable route of the zone's list, REFUGE
means that none is usable, and a hold candidate is the first usable route (R111, R112); STRANDED marks, EVAC claims and signs follow (R114 to R116). -/
def RoutesOk (s : State) : Prop :=
  (∀ r, 1 ≤ r → r ≤ 48 →
    if s.plan.routePlanned r then
      (s.rl.routes.get r).cause = s.rl.blockOf s.plan r (s.rl.routes.get r) ∧
        ((s.rl.routes.get r).usable = true ↔ (s.rl.routes.get r).cause = .none)
    else s.rl.routes.get r = .zero) ∧
  (∀ z, isZone z = true →
    (∀ r, (s.rl.zones.get z).selection = .route r → r ∈ s.plan.preferences z ∧ (s.rl.routes.get r).usable = true) ∧
    (s.plan.zonePlanned z = true → ((s.rl.zones.get z).selection = .none ↔ s.plan.preferences z = [])) ∧
    ((s.rl.zones.get z).selection = .refuge → ∀ r ∈ s.plan.preferences z, (s.rl.routes.get r).usable = false) ∧
    (∀ f, (s.rl.zones.get z).candidate = some f → s.rl.firstUsable (s.plan.preferences z) = some f) ∧
    ((s.rl.zones.get z).stranded = true ↔ (s.rl.zones.get z).phase = .evacuate ∧ (s.rl.zones.get z).selection = .refuge) ∧
    s.cu.zoneStranded.get z = (s.rl.zones.get z).stranded) ∧
  s.rl.claims = s.rl.doorsInUse s.plan ∧ ∀ g, s.plan.signPlanned g = true → s.rl.signs.get g = s.rl.signOf s.plan g

/-- A lighting test runs only under a plan and on planned circuits; while a duration test runs, every zone that lighting circuits serve has one that is
not in the test; and only circuits of a running duration test show DURATION_TEST (R119, R122, R123). -/
def LightsOk (s : State) : Prop :=
  (s.ps.active = none → s.rl.test = none) ∧
  (∀ q, s.rl.test = some q → q.circuits ≠ [] ∧ (∀ c ∈ q.circuits, s.plan.lampPlanned c = true) ∧
    (q.duration = true → ∀ z c, isZone z = true → s.plan.lampPlanned c = true → z ∈ s.plan.servedZones c →
      ∃ b, s.plan.lampPlanned b = true ∧ z ∈ s.plan.servedZones b ∧ b ∉ q.circuits)) ∧
  ∀ c, isCircuit c = true → (s.rl.circuits.get c).state = .durationTest →
    ∃ q, s.rl.test = some q ∧ q.duration = true ∧ c ∈ q.circuits

/-- Every planned door shows the condition R65 gives it and, unless it is ISOLATED, the lock command and holder output that its claims give
(R61, R64); a door that is not planned reads NONE. -/
def DoorsOk (s : State) : Prop :=
  ∀ d, isDoor d = true →
    if s.plan.doorPlanned d then
      (s.door d).cond = (s.door d).decide (s.doorView d) ∧
        ((s.door d).isolated = false →
          (s.door d).cmdLocked = (s.door d).command (s.doorView d) ∧ (s.door d).holderOn = (s.door d).holder (s.doorView d))
    else s.door d = .zero

/-! ### Outputs handed to devices (R50) -/

/-- A device as it holds an output value handed for it: an ISOLATED one goes on being sent the value it had (R50). -/
def Device.holding (x : Device) (v : BitVec 4) : Device :=
  { x with handed := some v, output := if x.cond = .isolated then x.output else some v }

/-- A device, the outputs it holds aside. -/
def Device.bare (x : Device) : Device := { x with output := none, handed := none }

/-- Of the loop controllers, only the outputs that the devices named hold have moved. -/
def OutputsMoved (s t : State) (owned : Nat → Prop) : Prop :=
  t.lc.loops = s.lc.loops ∧
    ∀ i, 1 ≤ i → i ≤ 384 → (t.device i).bare = (s.device i).bare ∧ (¬ owned i → t.device i = s.device i)

/-- Device `i` is that of a planned door. -/
def PlanBank.doorNames (p : PlanBank) (i : Nat) : Prop := ∃ d ∈ PlanBank.doorNumbers, p.doorPlanned d = true ∧ p.doorDevice d = i

/-- Device `i` is that of a planned help point. -/
def PlanBank.helpNames (p : PlanBank) (i : Nat) : Prop := ∃ h ∈ PlanBank.helpNumbers, p.helpPlanned h = true ∧ p.helpDevice h = i

/-- Device `i` is that of a planned sign. -/
def PlanBank.signNames (p : PlanBank) (i : Nat) : Prop := ∃ g ∈ PlanBank.signNumbers, p.signPlanned g = true ∧ p.signDevice g = i

/-- Device `i` is that of a planned lighting circuit. -/
def PlanBank.lampNames (p : PlanBank) (i : Nat) : Prop := ∃ c ∈ PlanBank.circuitNumbers, p.lampPlanned c = true ∧ p.lampDevice c = i

/-- Some other record of the plan names device `i`, or ZA hands it a sounder's output; `d`, `h`, `g`, `c` are the door, help point, sign and circuit
left out of the count (0 leaves out none). -/
def PlanBank.namedBeside (p : PlanBank) (i d h g c : Nat) : Prop :=
  p.deviceKind i = some .sounder ∨
    (∃ k, k ∈ PlanBank.doorNumbers ∧ k ≠ d ∧ p.doorPlanned k = true ∧ p.doorDevice k = i) ∨
    (∃ k, k ∈ PlanBank.helpNumbers ∧ k ≠ h ∧ p.helpPlanned k = true ∧ p.helpDevice k = i) ∨
    (∃ k, k ∈ PlanBank.signNumbers ∧ k ≠ g ∧ p.signPlanned k = true ∧ p.signDevice k = i) ∨
    (∃ k, k ∈ PlanBank.circuitNumbers ∧ k ≠ c ∧ p.lampPlanned k = true ∧ p.lampDevice k = i)

/-- The device of each planned door is handed the door's new output where the output changes, and is as before where it does not (R57). -/
def DoorsHanded (s t : State) : Prop :=
  ∀ d, s.plan.doorPlanned d = true →
    let i := s.plan.doorDevice d
    let v := (t.door d).output
    1 ≤ i → i ≤ 384 → ¬ s.plan.namedBeside i d 0 0 0 → t.device i = if v = (s.door d).output then s.device i else (s.device i).holding v

/-- The device of each planned help point is handed the point's new indicator where the indicator changes, and is as before where it does not (R103). -/
def HelpsHanded (s t : State) : Prop :=
  ∀ h, s.plan.helpPlanned h = true →
    let i := s.plan.helpDevice h
    let was := (s.cu.helps.get h).indicator
    1 ≤ i → i ≤ 384 → ¬ s.plan.namedBeside i 0 h 0 0 →
      ((t.cu.helps.get h).indicator = was → t.device i = s.device i) ∧
      ∀ v, (t.cu.helps.get h).indicator = some v → was ≠ some v → t.device i = (s.device i).holding v.output

/-- The device of each planned sign is handed the sign's new output where indication or flash changes, and is as before where neither does (R117). -/
def SignsHanded (s t : State) : Prop :=
  ∀ g, s.plan.signPlanned g = true →
    let i := s.plan.signDevice g
    1 ≤ i → i ≤ 384 → ¬ s.plan.namedBeside i 0 0 g 0 →
      t.device i = if t.rl.signs.get g = s.rl.signs.get g then s.device i else (s.device i).holding (t.rl.signs.get g).output

/-- The device of each planned circuit holds the circuit's output (R121); a value handed twice alters nothing (R50). -/
def LampsHanded (s t : State) : Prop :=
  ∀ c, s.plan.lampPlanned c = true →
    let i := s.plan.lampDevice c
    1 ≤ i → i ≤ 384 → ¬ s.plan.namedBeside i 0 0 0 c → t.device i = (s.device i).holding (t.rl.lampOutput s.plan c)

/-- Each planned sounder, those apart that `others` names, holds its output (R25): OFF where its zone's effective phase is NONE or the silenced mark is
set, otherwise that of the phase. -/
def SoundersHold (s t : State) (others : Nat → Prop) : Prop :=
  ∀ i, 1 ≤ i → i ≤ 384 → s.plan.deviceKind i = some .sounder → ¬ others i →
    t.device i = (s.device i).holding
      (match (t.zone (s.plan.deviceZone i)).phase with
      | .none => 0
      | .alert => if t.za.silenced then 0 else 1
      | .evacuate => if t.za.silenced then 0 else 2)

/-- Each planned sounder that no door or help point names holds its output (R25). -/
def SoundersHanded (s t : State) : Prop := SoundersHold s t (fun i => s.plan.doorNames i ∨ s.plan.helpNames i)

/-- Of the loop controllers, only the outputs handed for changed indicators of help points have moved. -/
def CallOutputs (s t : State) : Prop := OutputsMoved s t s.plan.helpNames ∧ HelpsHanded s t

/-- Of the loop controllers, only the outputs handed for doors, and for indicators that follow their alerts, have moved. -/
def DoorOutputs (s t : State) : Prop :=
  OutputsMoved s t (fun i => s.plan.doorNames i ∨ s.plan.helpNames i) ∧ DoorsHanded s t ∧ HelpsHanded s t

/-- Of the loop controllers, only the outputs handed for signs and circuits, and for indicators of calls in STRANDED zones, have moved. -/
def RouteOutputs (s t : State) : Prop :=
  OutputsMoved s t (fun i => s.plan.signNames i ∨ s.plan.lampNames i ∨ s.plan.helpNames i) ∧ SignsHanded s t ∧ LampsHanded s t ∧ HelpsHanded s t

/-- Of the loop controllers, only the outputs handed for circuits have moved. -/
def LampOutputs (s t : State) : Prop := OutputsMoved s t s.plan.lampNames ∧ LampsHanded s t

/-! ### One door (R56, R61, R65, R71) -/

/-- The claims of a door other than BASELINE, one after another as 09's claims byte lists them. -/
def Door.claims (x : Door) : Bool × Bool × Bool × Bool × Option Bool × Option Nat :=
  (x.pull, x.keys, x.evac, x.lockdown, x.hold, x.pass)

/-- Door `d` shows the condition that R65 gives its record and, unless it is ISOLATED, the lock command and holder output that its claims give. -/
def DoorDecided (s t : State) (d : Nat) : Prop :=
  (t.door d).cond = (t.door d).decide (s.doorView d) ∧
    ((t.door d).isolated = false →
      (t.door d).cmdLocked = (t.door d).command (s.doorView d) ∧ (t.door d).holderOn = (t.door d).holder (s.doorView d))

/-- Of the loop controllers, only the output handed for door `d` has moved, where `hands` says that it is handed, and the outputs for indicators that
follow its alert (R57, R103). -/
def DoorHands (s t : State) (d : Nat) (hands : Prop) [Decidable hands] : Prop :=
  OutputsMoved s t (fun i => i = s.plan.doorDevice d ∨ s.plan.helpNames i) ∧ HelpsHanded s t ∧
    let i := s.plan.doorDevice d
    (1 ≤ i → i ≤ 384 → ¬ s.plan.helpNames i → t.device i = if hands then (s.device i).holding (t.door d).output else s.device i)

/-- A command has changed door `d` alone and decided it again, what it hands aside: its condition and outputs follow its record, a change of condition is
noticed and told, and without one the call unit takes no alert. -/
def DoorAlone (s t : State) (d : Nat) : Prop :=
  PortKept s t ∧ Keeps [.ps, .za, .rl, .mem, .pending] s t ∧ t.du = { s.du with doors := t.du.doors } ∧
    (∀ e, e ≠ d → t.door e = s.door e) ∧ t.mail.zaOut = s.mail.zaOut ∧ DoorDecided s t d ∧
    ((t.door d).cond = (s.door d).cond → t.cu = s.cu ∧ t.mail.duOut = s.mail.duOut) ∧
    ((t.door d).cond ≠ (s.door d).cond → Noticed 2 t ∧ t.mail.duOut = s.mail.duOut ++ [(d, (t.door d).cond)])

/-- A command has changed door `d` alone and decided it again, and its device is handed its output where the lock command or the holder output changes
(R57, R61, R64). -/
def OneDoor (s t : State) (d : Nat) : Prop := DoorAlone s t d ∧ DoorHands s t d ((t.door d).output ≠ (s.door d).output)

/-- DU has changed door `d` alone within a command and decided it again; its output is handed where it changes (R57), and a change of its condition is
told to RL and ZA (R56). -/
def DoorMoved (s t : State) (d : Nat) : Prop :=
  Keeps [.xp, .ou, .ps, .za, .rl, .mem, .pending] s t ∧ t.du = { s.du with doors := t.du.doors } ∧
    (∀ e, e ≠ d → t.door e = s.door e) ∧ t.mail.zaOut = s.mail.zaOut ∧ t.mail.rlOut = s.mail.rlOut ∧ DoorDecided s t d ∧
    DoorHands s t d ((t.door d).output ≠ (s.door d).output) ∧
    t.mail.duOut = (if (t.door d).cond = (s.door d).cond then s.mail.duOut else s.mail.duOut ++ [(d, (t.door d).cond)])

/-- Conditions whose entry can send an alert (R71). -/
def alerting (c : DoorCond) : Prop := c = .forced ∨ c = .held ∨ c = .jammedShut ∨ c = .failClose

/-- CU has taken an alert of door `d` (R71, R92): the press it makes is admitted and the offer decided; of the rest of CU only indicators may follow. -/
def Alerted (s t : State) (d : Nat) (reason : Reason) (level : Nat) : Prop :=
  { t.cu with helps := s.cu.helps } = (s.cu.takePress s.now (s.alertPress d reason level)).decideOffer s.plan.nested

/-- The marks, timers and filter candidates of a door are clear (R66, R80). -/
def Door.Unmarked (x : Door) : Prop :=
  x.forced = false ∧ x.failClose = false ∧ x.held = false ∧ x.jam = .none ∧ x.holdStart = none ∧ x.lockStart = none ∧ x.closeStart = none

/-! ### Calls and polls -/

/-- A call without its state, WAITING standing for it. -/
def Call.unstated (c : Call) : Call := { c with state := .waiting }

/-- The call is ATTENDED. -/
def Call.attended (c : Call) : Bool := c.state = .attended

/-- The poll of an address in the sweep that the loop runs. -/
def Loop.pollOf (x : Loop) (addr : Nat) : Option Poll := x.sweep.bind (fun w => w.polls.find? (fun q => q.addr = addr))

/-! ### Lighting tests (R126 to R128) -/

/-- Test `q` has ended: each circuit still in it leaves with a result, a 24 h lockout after a duration test and a battery period where its mains is
ABSENT, and takes its state; the held order, where it still has its slot, completes, and PS is told. -/
def TestEnds (s t : State) (q : LightTest) (result : TestResult) (code : Completion) (words : List Word) : Prop :=
  t.rl.test = none ∧ t.ps = { s.ps with testReports := s.ps.testReports + 1 } ∧
  (∀ c, isCircuit c = true → c ∈ q.circuits → s.plan.lampPlanned c = true → t.rl.circuits.get c =
    { s.rl.circuits.get c with
      result := result
      recharge := if q.duration then some (s.now + 86400) else (s.rl.circuits.get c).recharge
      period := if (s.rl.circuits.get c).mainsAbsent then some s.now else none
      state := t.rl.stateOf (s.lampReachable c) s.now c (t.rl.circuits.get c) }) ∧
  (∀ c, isCircuit c = true → c ∉ q.circuits → t.rl.circuits.get c = s.rl.circuits.get c) ∧
  (∀ n, { slot := n, owner := .lights } ∈ s.ou.held →
    (s.slot n).CompletedAs (t.slot n) code words ∧ Noticed 0 t ∧ ∀ h ∈ t.ou.held, h.slot ≠ n)

/-! ### The break of a loop (R44) -/

/-- R44's pair, over the polls that are not lone: the last one heard at end A and the first one after it heard at end B, 0 where there is none. -/
def BreakBetween (polls : List Poll) (a b : Nat) : Prop :=
  ∃ before after : List Poll, polls = before ++ after ∧ (∀ q ∈ after, q.heardA = false) ∧
    (match before.getLast? with
     | none => a = 0
     | some q => q.heardA = true ∧ a = q.addr) ∧
    b = ((after.find? Poll.heardB).map Poll.addr).getD 0

/-! ### Going to GENERAL (R17) -/

/-- An area that is a neighbour of the area that evacuates, as R17 leaves it. -/
def Area.broughtIn (interval now : Nat) (x : Area) : Area :=
  if x.phase = .none then
    (if interval = 0 then { x with phase := .evacuate, phaseEnd := none } else { x with phase := .alert, phaseEnd := some (now + interval) })
  else x

/-- Area `b` as R17 leaves it when ZA goes to GENERAL for zone `z` from the areas given: the innermost area of the zone in EVACUATE, its neighbours
brought in, every other area as it was. -/
def State.roundFrom (s : State) (areas : Nat → Area) (z b : Nat) : Area :=
  match s.plan.innermost z with
  | none => areas b
  | some a =>
    if b = a then { areas a with phase := .evacuate, phaseEnd := none }
    else if b ∈ s.plan.neighbours a then (areas b).broughtIn (s.plan.phaseInterval b) s.now
    else areas b

/-- Area `b` as R17 leaves it when ZA goes to GENERAL for zone `z`. -/
def State.roundEvacuate (s : State) (z b : Nat) : Area := s.roundFrom s.area z b

/-- Every area is as R17 leaves it when ZA goes to GENERAL for zone `z`. -/
def AreasRoundEvacuate (s t : State) (z : Nat) : Prop := ∀ b, isArea b = true → t.area b = s.roundEvacuate z b

/-- The phases and phase timers of the areas are as R17 leaves them when ZA goes to GENERAL for zone `z`; their regimes may have moved. -/
def PhasesRoundEvacuate (s t : State) (z : Nat) : Prop :=
  ∀ b, isArea b = true → (t.area b).phase = (s.roundEvacuate z b).phase ∧ (t.area b).phaseEnd = (s.roundEvacuate z b).phaseEnd

/-! ### What ZA tells RL and CU (R7, R12, R24) -/

/-- The effective phase of zone `z` where the areas stand as given (R12). -/
def PlanBank.phaseUnder (p : PlanBank) (areas : Nat → Area) (z : Nat) : Phase :=
  if p.zonePlanned z then
    PlanBank.areaNumbers.foldl (fun acc a =>
      if (areas a).phase ≠ .none && p.inArea a z then acc.max (areas a).phase else acc) .none
  else .none

/-- The messages of the zones whose effective phase has changed, ascending (R12; log entry 14). -/
def phaseNews (before after : Nat → Phase) : List ZaMessage :=
  PlanBank.zoneNumbers.filterMap (fun z => if after z = before z then none else some (.phase z (after z)))

/-- The messages of the effective phases that have changed between two states (R12). -/
def phaseChanges (s t : State) : List ZaMessage := phaseNews (fun z => (s.zone z).phase) (fun z => (t.zone z).phase)

/-- The messages of the effective phases that have changed where the areas moved round trigger zone `y` first and then on (R12, R16, R17). -/
def phaseChangesRound (s t : State) (y : Nat) : List ZaMessage :=
  let round := s.plan.phaseUnder (s.roundEvacuate y)
  phaseNews (fun z => (s.zone z).phase) round ++ phaseNews round (fun z => (t.zone z).phase)

/-- ZA has sent the messages given, in this order, and no other. -/
def ZaTells (s t : State) (ms : List ZaMessage) : Prop := t.mail.zaOut = s.mail.zaOut ++ ms

/-- What ZA has sent for zone `z` entering ALARM: the alarm first (R7), then the effective phases that have changed with it (R12), round the trigger
zone of an investigation that it ends before those round its own (R16, R17). -/
def AlarmTold (s t : State) (z : Nat) : Prop :=
  (s.za.seq = .calm ∨ s.za.seq = .general → ZaTells s t (.alarm z true :: phaseChanges s t)) ∧
  (s.za.seq = .awaitAck ∨ s.za.seq = .searching → ∀ y ∈ s.za.first.head?, ZaTells s t (.alarm z true :: phaseChangesRound s t y))

/-! ### The end of an investigation (R16) -/

/-- The causes of the zones after an investigation of trigger zone `z` that has ended: its cause DETECTOR has become ESCALATED, and no other zone's cause
has moved, that of a zone `beside` left out of the count (R6, R16). -/
def CausesAfterSearch (s t : State) (z : Nat) (beside : Option Nat) : Prop :=
  (t.zone z).cause = (if (s.zone z).cause = .detector then .escalated else (s.zone z).cause) ∧
    ∀ w, w ≠ z → beside ≠ some w → (t.zone w).cause = (s.zone w).cause

/-- ZA is in GENERAL after an investigation of trigger zone `z`, the areas apart (R16), and has told of the effective phases that changed (R12). -/
def GeneralAfterSearch (s t : State) (z : Nat) : Prop :=
  t.za.seq = .general ∧ t.za.siteEnd = none ∧ t.za.silenced = false ∧ Noticed 1 t ∧ CausesAfterSearch s t z none ∧ ZaTells s t (phaseChanges s t)

/-- The investigation of trigger zone `z` has ended in GENERAL (R16), and the sounders hold their outputs (R25). -/
def InvestigationEnds (s t : State) (z : Nat) : Prop := GeneralAfterSearch s t z ∧ SoundersHanded s t ∧ AreasRoundEvacuate s t z

/-- What a change of regimes does to an investigation: it ends where one runs and the trigger zone's innermost area is among those that go to NIGHT,
and otherwise the sequence, its timer and mark, the causes and the phases are unmoved and ZA sends no message (R16, R134). -/
def NightEndsSearch (s t : State) (toNight : Nat → Prop) : Prop :=
  let ends := fun z => (s.za.seq = .awaitAck ∨ s.za.seq = .searching) ∧ isZone z = true ∧ ∃ b ∈ s.plan.innermost z, toNight b
  (∀ z ∈ s.za.first.head?, ends z → GeneralAfterSearch s t z ∧ PhasesRoundEvacuate s t z) ∧
  ((∀ z ∈ s.za.first.head?, ¬ ends z) →
    t.za.seq = s.za.seq ∧ t.za.siteEnd = s.za.siteEnd ∧ t.za.silenced = s.za.silenced ∧ (∀ w, (t.zone w).cause = (s.zone w).cause) ∧
      ZaTells s t [] ∧
      ∀ b, isArea b = true → (t.area b).phase = (s.area b).phase ∧ (t.area b).phaseEnd = (s.area b).phaseEnd)

/-! ### Misses (R42, R46) -/

/-- A device has gone from `x` to `y` at the end of a sweep: an unheard due poll counts a miss, to at most the limit, at which the device is MISSING,
and sets the recovery count to 0; without one neither count nor the condition has moved (R46). -/
def MissCounted (limit : Nat) (missed : Prop) (x y : Device) : Prop :=
  (missed → y.miss = min limit (x.miss + 1) ∧ y.recovery = 0 ∧ y.cond = if limit ≤ x.miss + 1 then .missing else x.cond) ∧
  (¬ missed → y.miss = x.miss ∧ y.recovery = x.recovery ∧ y.cond = x.cond)

/-- A device has gone from `x` to `y` with its loop entering FAILED: MISSING, its miss count at the limit and its recovery count 0, but where it was
MISSING already, when only its sweep counts (R42). -/
def MissingWithLoop (limit : Nat) (missed : Prop) (x y : Device) : Prop :=
  y.cond = .missing ∧ (x.cond ≠ .missing → y.miss = limit ∧ y.recovery = 0) ∧ (x.cond = .missing → MissCounted limit missed x y)

/-! ### An answer passed on (R45) -/

/-- The owner of device `i`, of the kind given, has taken the value of an answer of it: a detector or contact is decided (R2, R4), a door, a help point
or a circuit takes a report (R57, R87, R118). -/
def PassedOn (s t : State) (i : Nat) (kind : DeviceKind) (value : Half) : Prop :=
  let latches := (s.zone (s.plan.deviceZone i)).cond.latches
  let x := s.detector i
  let read := x.reading (s.plan.warnThreshold i) (s.alarmThreshold i) (s.plan.confirmCount i) (value.toNat % 256) latches
  let touched := x.contact (value.getLsbD 0) latches
  let u := s.setDevice i (fun y => { y with cond := .ok })
  (kind = .detector → { t.detector i with testHit := false } = { read with testHit := false } ∧ t.za = (u.decided i read .detector).za) ∧
  (kind = .breakglass → { t.detector i with testHit := false } = { touched with testHit := false } ∧
    t.za = (u.decided i touched .breakglass).za) ∧
  (kind = .door → ∀ d, s.plan.doorOfDevice i = some d →
    t.du = (u.doorReport d value).du ∧ t.cu = (u.doorReport d value).cu ∧ t.mail = (u.doorReport d value).mail) ∧
  (kind = .help → ∀ h, s.plan.helpOfDevice i = some h → t.cu = (u.helpReport h value).cu) ∧
  (kind = .lamp → ∀ k, s.plan.lampOfDevice i = some k → t.rl = (u.lampReport k value).rl)

/-! ### What the units take up at an activation -/

/-- What the loop controllers show after an activation that took the part from s to t, the outputs they hold aside (R51, R55). -/
def LoopsTakenUp (s t : State) : Prop :=
  (∀ l, isLoop l = true →
    let x := s.loop l
    let y := t.loop l
    let changed := ∃ a, isAddress a = true ∧ s.plan.deviceCode (l * 96 + a) ≠ t.plan.deviceCode (l * 96 + a)
    let left := (List.range' 1 96).filter (fun a => (s.device (l * 96 + a)).extra && !t.plan.devicePlanned (l * 96 + a))
    (x.state = .idle → y.state = .idle ∧ y.sweep = x.sweep) ∧
    (x.state ≠ .idle →
      (t.plan.loopPlanned l = false →
        y.state = .idle ∧ y.sweep = none ∧ y.endADown = false ∧ y.endBDown = false ∧ y.worse = .clear ∧ y.better = .clear ∧
          ∀ n, { slot := n, owner := .loop l } ∈ s.ou.held → (s.slot n).CompletedAs (t.slot n) .aborted []) ∧
      (t.plan.loopPlanned l = true → changed →
        y.state = .rollcall ∧ y.attempt = 1 ∧ y.sweep = none ∧ y.worse = .clear ∧ y.better = .clear ∧ y.rollHeard = false) ∧
      (t.plan.loopPlanned l = true → ¬ changed →
        y.state = x.state ∧ y.attempt = x.attempt ∧ y.sweep = x.sweep ∧ y.worse = x.worse ∧ y.better = x.better)) ∧
    y.disagree = x.disagree ∧ y.breakA = x.breakA ∧ y.breakB = x.breakB ∧ y.number = x.number ∧ y.next = x.next ∧ y.broadcastAt = none ∧
    y.extraCount = left.length ∧ y.firstExtra = (if x.firstExtra ∈ left then x.firstExtra else left.headD 0)) ∧
  (∀ i, 1 ≤ i → i ≤ 384 →
    (t.device i).bare =
      (if s.plan.deviceCode i = t.plan.deviceCode i then (s.device i).bare
       else if t.plan.devicePlanned i then { Device.zero with cond := .waiting } else Device.zero) ∧
    (s.plan.devicePlanned i = true → t.plan.devicePlanned i = true → s.plan.deviceCode i ≠ t.plan.deviceCode i →
      Noticed 5 t ∧ t.xp.counts.get (143 + i) = s.xp.counts.get (143 + i) + 2))

/-- What ZA shows after an activation on a CALM site (R29, R138), and where the release keys are held under the new plan (R74); that it has told of the
effective phases that have changed (R12). -/
def ZonesTakenUp (s t : State) : Prop :=
  (∀ z, isZone z = true → { t.zone z with phase := .none } =
    if t.plan.zonePlanned z then
      (if s.plan.zonePlanned z then { s.zone z with phase := .none } else { Zone.zero with cond := .quiet })
    else Zone.zero) ∧
  (∀ a, isArea a = true →
    let x := s.area a
    let y := t.area a
    (t.plan.areaPlanned a = false ∨ s.plan.areaPlanned a = false → y.regime = .day ∧ y.closingEnd = none) ∧
    (t.plan.areaPlanned a = true → s.plan.areaPlanned a = true →
      if x.regime = .closing ∧ t.closingHolds a = true then y.regime = .night ∧ y.closingEnd = none
      else y.regime = x.regime ∧ y.closingEnd = x.closingEnd)) ∧
  (∀ i, 1 ≤ i → i ≤ 384 → t.detector i =
    if (t.plan.deviceKind i = some .detector ∨ t.plan.deviceKind i = some .breakglass) ∧ s.plan.deviceKind i = t.plan.deviceKind i
    then { s.detector i with confirm := 0 } else Detector.zero) ∧
  t.za.first = s.za.first ∧ ZaTells s t (phaseChanges s t) ∧
  (t.keySetOperated = false → t.za.seq = .calm ∧ t.za.keysHeld = s.za.keysHeld ∧
    (∀ a, isArea a = true → (t.area a).phase = .none ∧ (t.area a).phaseEnd = none) ∧ ∀ z, isZone z = true → (t.zone z).phase = .none) ∧
  (t.keySetOperated = true → t.za.seq = .general ∧ t.za.keysHeld = true ∧ Noticed 1 t ∧
    ∀ a, t.plan.areaPlanned a = true → (t.area a).phase = .evacuate)

/-- What DU shows after an activation (R74, R83), the filter candidates of the doors it leaves UNKNOWN (R58), and the notice of a door held too long
under its new limit, which stands whatever the release keys then make of the door (R56). -/
def DoorsTakenUp (s t : State) : Prop :=
  t.du.setHeld = t.keySetOperated ∧ t.du.broadcast = false ∧ t.du.keyInput = s.du.keyInput ∧ t.du.keyAccepted = s.du.keyAccepted ∧
  ∀ d, isDoor d = true →
    let x := s.door d
    let y := t.door d
    let strong := t.plan.doorKind d = some .strong
    let i := t.plan.doorDevice d
    let keyed := t.keySetOperated = true ∧ ¬ strong
    let changed := s.plan.checkCount d ≠ t.plan.checkCount d ∨ s.plan.doorKind d ≠ t.plan.doorKind d ∨ s.plan.doorDevice d ≠ i
    (t.plan.doorPlanned d = false → y = Door.zero ∧
      (s.plan.doorPlanned d = true → ¬ t.plan.namedBeside (s.plan.doorDevice d) 0 0 0 0 → 1 ≤ s.plan.doorDevice d →
        (t.device (s.plan.doorDevice d)).output = none ∧ (t.device (s.plan.doorDevice d)).handed = none)) ∧
    (t.plan.doorPlanned d = true →
      ((t.device i).cond ≠ .ok → (y.isolated = false → y.cond = .unknown) ∧ y.posCand = none ∧ y.exitCand = none) ∧
      (y.keys = true ↔ keyed ∨ (s.plan.doorPlanned d = true ∧ ¬ strong ∧ x.keys = true))) ∧
    (t.plan.doorPlanned d = true → s.plan.doorPlanned d = false →
      y.settle = true ∧ y.isolated = false ∧ y.Unmarked ∧ y.forcedCount = 0 ∧
      y.pull = false ∧ y.evac = false ∧ y.lockdown = false ∧ y.hold = none ∧ y.pass = none) ∧
    (t.plan.doorPlanned d = true → s.plan.doorPlanned d = true →
      y.isolated = x.isolated ∧ y.forcedCount = x.forcedCount ∧ y.pull = x.pull ∧ y.hold = x.hold ∧ y.pass = x.pass ∧
      y.evac = (x.evac && !decide strong) ∧ y.lockdown = (x.lockdown && !decide (t.plan.doorKind d = some .fire)) ∧
      y.posOpen = x.posOpen ∧ y.exitPressed = x.exitPressed ∧ y.lockEngaged = x.lockEngaged ∧ y.pullOperated = x.pullOperated ∧
      (changed → y.settle = true ∧ y.Unmarked) ∧
      (¬ changed → y.settle = x.settle ∧ ((t.device i).cond = .ok → y.posCand = x.posCand ∧ y.exitCand = x.exitCand) ∧
        (∀ b, x.holdStart = some b → b + t.plan.holdLimit d ≤ s.now →
          ({ x with evac := y.evac, lockdown := y.lockdown, keys := x.keys && !decide strong }).holdRuns (t.doorView d) = true →
          x.jam = .none → x.failClose = false → x.cond ≠ .held →
          Noticed 2 t ∧ t.xp.counts.get (527 + d) = s.xp.counts.get (527 + d) + 2) ∧
        (t.keySetOperated = false →
          (∀ b, x.holdStart = some b → b + t.plan.holdLimit d ≤ s.now →
            y.held = true ∨ ({ y with held := false }).holdRuns (t.doorView d) = false) ∧
          (∀ b, x.closeStart = some b → b + t.plan.closeTime d ≤ s.now →
            y.failClose = true ∨ ({ y with failClose := false }).closeRuns (t.doorView d) = false)))) ∧
    (t.plan.doorPlanned d = true → s.plan.doorPlanned d = false ∨ (y.isolated = false ∧ s.plan.doorDevice d ≠ i) →
      1 ≤ i → ¬ t.plan.namedBeside i d 0 0 0 → (t.device i).handed = some y.output)

/-- What CU shows after an activation (R106), the alerts of R83's immediate expiries having arrived after it (R154). A call record that its take-up
changes is rewritten and noticed, whatever the alerts then make of the call (R85, R106). -/
def CallsTakenUp (s t : State) : Prop :=
  (let taken := (({ s.cu with zoneStranded := t.cu.zoneStranded } : Cu).takeUp s.plan t.plan s.now).decideOffer t.plan.nested
   ∀ e, e < 32 → callBody (taken.entry e) ≠ callBody (s.cu.entry e) →
     Noticed 3 t ∧ (t.xp.summary.get ((592 + e) / 32)).getLsbD ((592 + e) % 32) = true) ∧
  (∀ c ∈ t.cu.calls, t.plan.sourcePlanned c.source = true ∧ c.zone = t.plan.sourceZone c.source ∧
    ((∃ b ∈ s.cu.calls, b.source = c.source ∧ b.serial = c.serial) ∨ (s.cu.sources.get c.source).pending.isSome = true ∨ 80 < c.source)) ∧
  (∀ b ∈ s.cu.calls, t.plan.sourcePlanned b.source = true → ∃ c ∈ t.cu.calls,
    c.source = b.source ∧ c.serial = b.serial ∧ c.entry = b.entry ∧ c.admitted = b.admitted ∧ b.level ≤ c.level ∧
    (c.state = .attended ↔ b.state = .attended) ∧ (b.source ≤ 80 → { c with state := b.state } = { b with zone := t.plan.sourceZone b.source })) ∧
  (∀ n, 1 ≤ n → n ≤ 144 →
    if t.plan.sourcePlanned n then
      (t.cu.sources.get n).base = t.plan.sourceBaseLevel n ∧
        ∀ q, (s.cu.sources.get n).pending = some q →
          (∃ c ∈ t.cu.calls, c.source = n ∧ q.1 ≤ c.level) ∨ (∃ r, (t.cu.sources.get n).pending = some r ∧ q.1 ≤ r.1)
    else t.cu.sources.get n = Source.zero) ∧
  (∀ h, 1 ≤ h → h ≤ 80 →
    let x := s.cu.helps.get h
    let y := t.cu.helps.get h
    if t.plan.helpPlanned h then
      y.button = x.button ∧ y.cancel = x.cancel ∧
        y.settle = (x.settle || !(s.plan.helpPlanned h && decide (s.plan.helpDevice h = t.plan.helpDevice h))) ∧
        (s.plan.helpPlanned h = false ∨ s.plan.helpDevice h ≠ t.plan.helpDevice h → 1 ≤ t.plan.helpDevice h →
          ¬ t.plan.namedBeside (t.plan.helpDevice h) 0 h 0 0 →
          (t.device (t.plan.helpDevice h)).handed = y.indicator.map Indicator.output)
    else y = HelpPoint.zero) ∧
  (∀ d, isDoor d = true → (t.door d).cond ≠ (s.door d).cond → (t.door d).cond = .held ∨ (t.door d).cond = .failClose →
    (∃ c ∈ t.cu.calls, c.source = 80 + d ∧ max (t.plan.doorBaseLevel d) 2 ≤ c.level) ∨
      (∃ r, (t.cu.sources.get (80 + d)).pending = some r ∧ max (t.plan.doorBaseLevel d) 2 ≤ r.1)) ∧
  t.cu.zoneAlarm = s.cu.zoneAlarm

/-- What RL shows after an activation on a CALM site (R131); that RL then holds what ZA and DU hold is log entry 11, the reserve log entry 45. -/
def RoutesTakenUp (s t : State) : Prop :=
  RoutesOk t ∧ t.rl.test = s.rl.test ∧ t.rl.claims = [] ∧ t.mail.rlOut = s.mail.rlOut ++ claimRequests s.rl.claims [] ∧
  (∀ r, 1 ≤ r → r ≤ 48 → (t.rl.routes.get r).bar =
    (s.plan.routePlanned r && t.plan.routePlanned r && (s.rl.routes.get r).bar)) ∧
  (∀ z, isZone z = true →
    let y := t.rl.zones.get z
    let prefs := t.plan.preferences z
    y.candidate = none ∧ y.holdEnd = none ∧ y.stranded = false ∧ y.alarm = false ∧ y.phase = .none ∧
    y.selection =
      if t.plan.zonePlanned z = false ∨ prefs = [] then .none
      else match prefs.find? (fun r => (t.rl.routes.get r).usable) with
        | some f => .route f
        | none => .refuge) ∧
  (∀ g, 1 ≤ g → g ≤ 64 →
    if t.plan.signPlanned g then
      (1 ≤ t.plan.signDevice g → ¬ t.plan.namedBeside (t.plan.signDevice g) 0 0 g 0 →
        (t.device (t.plan.signDevice g)).handed = some (t.rl.signs.get g).output)
    else t.rl.signs.get g = Sign.zero) ∧
  (∀ c, isCircuit c = true →
    let kept := s.plan.lampPlanned c = true ∧ s.plan.lampDevice c = t.plan.lampDevice c
    if t.plan.lampPlanned c then
      { t.rl.circuits.get c with state := .none } = { (if kept then s.rl.circuits.get c else Circuit.zero) with state := .none } ∧
        (t.rl.circuits.get c).state = t.rl.stateOf (t.lampReachable c) s.now c (t.rl.circuits.get c) ∧
        (1 ≤ t.plan.lampDevice c → ¬ t.plan.namedBeside (t.plan.lampDevice c) 0 0 0 c →
          (t.device (t.plan.lampDevice c)).handed = some (if t.plan.maintained c then 1 else 0))
    else t.rl.circuits.get c = Circuit.zero)

end Sys2Proof.Machine
end

