-- ==== Sys2Proof/Certificates/Slice0/Obligations.lean ====
section
/-!
DEFINITION. The statements for the provers, each a proposition about the model; OBLIGATIONS.json says what each formalises.
-/

open Sys2Proof Sys2Proof.Machine

/-! ### The step, the queue, the resets -/

/-- One step carries out the command at the front of the queue on the rest of the queue. With no command waiting the block idles, which is the model's
choice (log entry 28). -/
def Obligations.StepRunsFrontCommand : Prop :=
  (∀ (c : Instr) (q : List Instr) (s : State), step (s.withPending (c :: q)) = exec c (s.withPending q)) ∧
  (∀ s : State, s.pending = [] → step s = .next s)

/-- Every command runs to a next state in every state, and none touches the commands that wait (95: each step is whole). A command whose event cannot
happen does so by the model's choice (log entry 2, DESIGN CHOICE); that nothing stops the part is log entry 33 (DEDUCED), and that a cold reset keeps
the waiting commands is log entry 27 (DEDUCED). -/
def Obligations.EveryCommandCompletes : Prop :=
  ∀ (c : Instr) (s : State), ∃ t, exec c s = .next t ∧ t.pending = s.pending

/-- What cold reset leaves in the window and in OU (R172). -/
def Obligations.ColdResetZeroesTheExchange : Prop :=
  ∀ s : State, ∃ t, exec .coldReset s = .next t ∧
    (∀ o, o < 0x7800 → t.exchangeByte o = if o = 0x12 then 1 else 0) ∧
    (∀ o, t.register o = if o = 0x7FE0 then some 0x54C20840#32
      else if o = 0x7FE4 ∨ o = 0x7FE8 ∨ o = 0x7FEC ∨ o = 0x7FF0 then some 0 else none) ∧
    (∀ n, isSlot n = true → (t.slot n).handover = .free) ∧ t.noticeLine = false ∧ t.ou.queue = [] ∧ t.ou.held = [] ∧
    t.ou.working = none ∧ t.xp.seconds = 0 ∧ t.xp.attach = .unwatched ∧ t.ps.active = none ∧ t.ps.staged = .edit

/-- The interface reset (R153, R173; that no change count moves, R166). -/
def Obligations.IfaceResetClearsTheExchange : Prop :=
  ∀ (line : Bool) (s : State), ∃ t, exec (.ifaceReset line) s = .next t ∧ HostSeen s t ∧
    (∀ n, isSlot n = true → ∀ k, k < 16 → (t.slot n).wordAt k = 0) ∧ t.ou.queue = [] ∧ t.ou.held = [] ∧
    t.ou.working = s.ou.working.map (fun w => { w with slot := none }) ∧ t.xp.notice = 0 ∧ t.xp.mask = 0 ∧ t.xp.lineEnable = false ∧
    t.noticeLine = false ∧ (∀ i, i < 27 → t.xp.summary.get i = if i < 26 then 0xFFFFFFFF#32 else 0x001FFFFF#32) ∧
    t.xp.capture.count = 0 ∧ t.ps.staged = .edit ∧ t.ps.active = s.ps.active ∧ t.ps.lastCheck = s.ps.lastCheck ∧
    t.ps.lastIndex = s.ps.lastIndex ∧ t.mem = s.mem ∧
    ∀ k, k < 853 → t.recordBody k = s.recordBody k ∧ t.xp.counts.get k = s.xp.counts.get k

/-! ### Host writes -/

/-- A refused host write (R156, R157, R158): it is dropped, the capture is filled or counts on, and NOTICE.WRITE is set. DESIGN CHOICE: the reason of
a write to the bank that is neither active nor staged is log entry 35, the offset and value kept of a write refused for its size are log entry 38, and
reason SIZE where the address would give another one too is log entry 52. -/
def Obligations.RefusedWriteIsCaptured : Prop :=
  ∀ (s : State) (offset : BitVec 15) (size : AccessSize) (value : Word) (reason : RefusedReason),
    s.writeRefusal offset size value = some reason →
    ∃ t, exec (.hostWrite offset size value) s = .next t ∧ HostSeen s t ∧ Keeps [.ou, .ps, .mem] s t ∧ Noticed 7 t ∧
      PortIs t s.xp.lineEnable s.xp.mask (s.xp.notice ||| 128#8) s.xp.summary
        (if s.xp.capture.count = 0 then { reason := some reason, offset := offset, value := value, count := 1 }
          else { s.xp.capture with count := min 255 (s.xp.capture.count + 1) }) ∧
      t.xp.captureCount = s.xp.captureCount + 2

/-- An accepted write of a header or argument word of a FREE slot (R157): the word reads as written, its spare bits as 0 (R174; log entry 9), and no
other word of any slot moves. An accepted write of the staged bank (R146, R157): its four bytes are written, least significant lowest (R174), and no
other. -/
def Obligations.AcceptedWritesAreStored : Prop :=
  (∀ (s : State) (n k : Nat) (value : Word), isSlot n = true → 1 ≤ k → k ≤ 8 → (s.slot n).handover = .free →
      ∃ t, exec (.hostWrite (BitVec.ofNat 15 (0x0200 + 64 * n + 4 * k)) .word value) s = .next t ∧ HostSeen s t ∧
        (t.slot n).wordAt k = (if k = 2 then value &&& 1#32 else if k = 3 then value &&& 0xFFFF00FF#32 else value) ∧
        (∀ j, j ≠ k → (t.slot n).wordAt j = (s.slot n).wordAt j) ∧ (∀ m, m ≠ n → t.slot m = s.slot m) ∧
        t.ou.queue = s.ou.queue ∧ t.ou.working = s.ou.working ∧ t.ou.held = s.ou.held ∧ Keeps [.ps, .mem] s t ∧
        PortIs t s.xp.lineEnable s.xp.mask s.xp.notice s.xp.summary s.xp.capture) ∧
  (∀ (s : State) (offset : BitVec 15) (value : Word), s.mem.wf → s.ps.staged = .edit → offset.toNat % 4 = 0 →
      s.ps.stagedBank.base ≤ offset.toNat → offset.toNat < s.ps.stagedBank.base + 0x2800 →
      ∃ t, exec (.hostWrite offset .word value) s = .next t ∧ HostSeen s t ∧ Keeps [.ou, .ps] s t ∧
        (∀ o, Memory.read t.mem o =
          if offset.toNat ≤ o ∧ o < offset.toNat + 4 then byteOfWord value (o - offset.toNat) else Memory.read s.mem o) ∧
        PortIs t s.xp.lineEnable s.xp.mask s.xp.notice s.xp.summary s.xp.capture)

/-- The registers the host may always write (R143, R157, R169, R170, R171), each with what it leaves alone. Each 1 written to a change summary word
clears its bit, each 0 leaves it (R167). -/
def Obligations.RegisterWritesTakeEffect : Prop :=
  (∀ (s : State) (value : Word) (on : Bool),
      (∃ t, exec (.noticeClear value) s = .next t ∧ HostSeen s t ∧ Keeps [.ou, .ps, .mem] s t ∧
        (∀ i, i < 8 → t.xp.notice.getLsbD i = (s.xp.notice.getLsbD i && !value.getLsbD i)) ∧
        PortIs t s.xp.lineEnable s.xp.mask t.xp.notice s.xp.summary s.xp.capture) ∧
      (∃ t, exec (.noticeMaskWrite value) s = .next t ∧ HostSeen s t ∧ Keeps [.ou, .ps, .mem] s t ∧
        (∀ i, i < 8 → t.xp.mask.getLsbD i = value.getLsbD i) ∧
        PortIs t s.xp.lineEnable t.xp.mask s.xp.notice s.xp.summary s.xp.capture) ∧
      (∃ t, exec (.lineEnable on) s = .next t ∧ HostSeen s t ∧ Keeps [.ou, .ps, .mem] s t ∧
        PortIs t on s.xp.mask s.xp.notice s.xp.summary s.xp.capture) ∧
      (∃ t, exec (.presenceWrite value) s = .next t ∧ HostSeen s t ∧ Keeps [.ou, .ps, .mem] s t ∧
        PortIs t s.xp.lineEnable s.xp.mask s.xp.notice s.xp.summary s.xp.capture)) ∧
  (∀ (s : State) (i : Nat) (value : Word), isSummaryWord i = true →
      ∃ t, exec (.changeSummaryClear i value) s = .next t ∧ HostSeen s t ∧ Keeps [.ou, .ps, .mem] s t ∧
        t.xp.summary.get i = (s.xp.summary.get i &&& ~~~value) ∧ (∀ j, j ≠ i → t.xp.summary.get j = s.xp.summary.get j) ∧
        PortIs t s.xp.lineEnable s.xp.mask s.xp.notice t.xp.summary s.xp.capture)

/-- A commit of a FREE slot arrives (R159) and takes its place in the queue (R160). A withdrawal and a giving back free the slot, and no completion or
notice follows (R159). -/
def Obligations.HandoverWritesMoveTheSlot : Prop :=
  (∀ (s : State) (n : Nat), isSlot n = true → (s.slot n).handover = .free →
      ∃ t, exec (.commit n) s = .next t ∧ HostSeen s t ∧ t.slot n = { s.slot n with handover := .committed } ∧
        (∀ m, m ≠ n → t.slot m = s.slot m) ∧ t.ou.working = s.ou.working ∧ t.ou.held = s.ou.held ∧ Keeps [.ps, .mem] s t ∧
        PortIs t s.xp.lineEnable s.xp.mask s.xp.notice s.xp.summary s.xp.capture ∧
        ∃ a b, s.ou.queue = a ++ b ∧ t.ou.queue = a ++ n :: b ∧
          if (s.slot n).urgent then (∀ m ∈ b, (s.slot m).urgent = false) ∧ (∀ m ∈ a.getLast?, (s.slot m).urgent = true)
          else b = []) ∧
  (∀ (s : State) (n : Nat), isSlot n = true →
      ((s.slot n).handover = .committed →
        ∃ t, exec (.withdrawal n) s = .next t ∧ HostSeen s t ∧ t.slot n = { s.slot n with handover := .free } ∧
          (∀ m, m ≠ n → t.slot m = s.slot m) ∧ t.ou.queue = s.ou.queue.filter (fun m => m ≠ n) ∧
          t.ou.working = s.ou.working ∧ t.ou.held = s.ou.held ∧ Keeps [.ps, .mem] s t ∧
          PortIs t s.xp.lineEnable s.xp.mask s.xp.notice s.xp.summary s.xp.capture) ∧
      ((s.slot n).handover = .done →
        ∃ t, exec (.giveBack n) s = .next t ∧ HostSeen s t ∧ t.slot n = { s.slot n with handover := .free } ∧
          (∀ m, m ≠ n → t.slot m = s.slot m) ∧ t.ou.queue = s.ou.queue ∧
          t.ou.working = s.ou.working ∧ t.ou.held = s.ou.held ∧ Keeps [.ps, .mem] s t ∧
          PortIs t s.xp.lineEnable s.xp.mask s.xp.notice s.xp.summary s.xp.capture))

/-! ### What the part keeps for the host -/

/-- A record that shows something new after a command has been rewritten: its change count has advanced by two and its change summary bit is set
(R166, R167; once for each command beside the rewrites that the rules ask for outright, log entry 5, DESIGN CHOICE). A record that shows nothing new
has kept its count, but for the rewrites asked for anyway: of the loop record (R30, R49), of the area record (R134), of the record of a device that
STOP LOOP finds WAITING on the loop it stops (R39), of a device, door, call or source record at an activation (R55, R56, R84, R85), of the zone record
(R6), which is rewritten at each change of state of a detector or contact of a zone in ALARM. At an activation a call or source record is rewritten once
for CU's take-up and once for each alert that changes it after that (R106, R154). That changes made and undone within a command rewrite nothing else is
log entry 5 too. -/
def Obligations.ChangedRecordsAreRewritten : Prop :=
  ∀ (c : Instr) (s t : State), c ≠ .coldReset → exec c s = .next t → ∀ k, k < 853 →
    let shown := (t.xp.summary.get (k / 32)).getLsbD (k % 32) = true
    let before := s.xp.counts.get k
    let after := t.xp.counts.get k
    let recounts := fun z => (s.zone z).cond = .alarm ∧ (t.zone z).cond = .alarm ∧
      ∃ i ∈ List.range' 1 384, s.plan.deviceZone i = z ∧ (t.detector i).state ≠ (s.detector i).state ∧
        (s.plan.deviceKind i = some .detector ∨ s.plan.deviceKind i = some .breakglass)
    let callsShown := 592 ≤ k ∧ k < 768 ∧ t.ps.active ≠ s.ps.active ∧ ∃ m, 1 ≤ m ∧ after = before + BitVec.ofNat 8 (2 * m)
    (t.recordBody k ≠ s.recordBody k →
      shown ∧ (after = before + 2 ∨ (c = .setRegime ∧ 120 ≤ k ∧ k < 144 ∧ after = before + 4) ∨ callsShown)) ∧
    (t.recordBody k = s.recordBody k → after = before ∨ (shown ∧ callsShown) ∨ (shown ∧ after = before + 2 ∧
      ((∃ l, k = 848 + l ∧ (c = .sweepEnd l ∨ ∃ a b : Bool, c = .callOut l a b)) ∨
        (120 ≤ k ∧ k < 144 ∧ (t.area (k - 120)).regime ≠ (s.area (k - 120)).regime) ∨
        (c = .stopLoop ∧ 144 ≤ k ∧ k < 528 ∧ (s.device (k - 143)).cond = .waiting ∧ (t.loop ((k - 144) / 96)).state ≠ (s.loop ((k - 144) / 96)).state) ∨
        (144 ≤ k ∧ k < 592 ∧ t.ps.active ≠ s.ps.active) ∨ (k < 120 ∧ recounts (k + 1))))) ∧
    (k < 120 → recounts (k + 1) → shown ∧ after = before + 2)

/-- A cause of NOTICE is set by a command after which what the cause stands for has changed, and stays set until the host clears it or a reset comes
(R169). That an area's regime is the one its record shows, where an activation plans or removes the area, is log entry 57 (DESIGN CHOICE);
that a sign is compared by its number, one not planned reading OFF and steady, is log entry 58 (DESIGN CHOICE). -/
def Obligations.ChangesAreNoticed : Prop :=
  ∀ (c : Instr) (s t : State), resets c = false → exec c s = .next t →
    (∀ n, isSlot n = true → (s.slot n).handover ≠ .done → (t.slot n).handover = .done → Noticed 0 t) ∧
    (t.za.seq ≠ s.za.seq → Noticed 1 t) ∧ (t.za.silenced ≠ s.za.silenced → Noticed 1 t) ∧ (t.za.keysHeld ≠ s.za.keysHeld → Noticed 1 t) ∧
    (t.za.first.headD 0 ≠ s.za.first.headD 0 → Noticed 1 t) ∧
    (∀ z, isZone z = true → (t.zone z).cond ≠ (s.zone z).cond → Noticed 1 t) ∧
    (∀ a, isArea a = true → (t.area a).phase ≠ (s.area a).phase ∨ t.shownRegime a ≠ s.shownRegime a → Noticed 1 t) ∧
    (∀ d, isDoor d = true → (t.door d).cond ≠ (s.door d).cond → Noticed 2 t) ∧
    (t.cu.calls ≠ s.cu.calls → Noticed 3 t) ∧
    (∀ r, 1 ≤ r → r ≤ 48 → (t.rl.routes.get r).usable ≠ (s.rl.routes.get r).usable → Noticed 4 t) ∧
    (∀ n, isCircuit n = true → (t.rl.circuits.get n).state ≠ (s.rl.circuits.get n).state → Noticed 4 t) ∧
    (∀ z, isZone z = true → (t.rl.zones.get z).selection ≠ (s.rl.zones.get z).selection ∨
      (t.rl.zones.get z).stranded ≠ (s.rl.zones.get z).stranded → Noticed 4 t) ∧
    (∀ g, 1 ≤ g → g ≤ 64 → t.rl.signs.get g ≠ s.rl.signs.get g → Noticed 4 t) ∧
    (∀ l, isLoop l = true → (t.loop l).state ≠ (s.loop l).state → Noticed 5 t) ∧
    (∀ i, 1 ≤ i → i ≤ 384 → (t.device i).cond ≠ (s.device i).cond ∨ ((t.device i).extra = true ∧ (s.device i).extra = false) → Noticed 5 t) ∧
    (t.ps.staged ≠ s.ps.staged → Noticed 6 t) ∧ (t.ps.active ≠ s.ps.active → Noticed 6 t) ∧
    ((∀ v, c ≠ .noticeClear v) → (∀ o z v, c ≠ .hostWrite o z v) → ∀ i, Noticed i s → Noticed i t)

/-- The notice line (R170): what asserts it, what a host write and read of its mask do, and what the resets leave. -/
def Obligations.NoticeLineFollowsItsRegisters : Prop :=
  (∀ s : State, s.noticeLine = true ↔
    s.xp.lineEnable = true ∧ ∃ i, i < 8 ∧ s.xp.notice.getLsbD i = true ∧ s.xp.mask.getLsbD i = true) ∧
  (∀ (s : State) (value : Word), ∃ t, exec (.noticeMaskWrite value) s = .next t ∧
    t.hostRead 0x7FEC#15 .word = (value &&& 0xFF#32)) ∧
  (∀ s : State, s.hostRead 0x7FEC#15 .word = s.xp.mask.zeroExtend 32) ∧
  ∀ (c : Instr) (s : State), c = .coldReset ∨ (∃ line, c = .ifaceReset line) →
    ∃ t, exec c s = .next t ∧ t.xp.mask = 0 ∧ t.xp.lineEnable = false ∧ t.noticeLine = false

/-- A slot's bit of the done summary reads 1 exactly while the slot is DONE, a host write to the word is refused with reason PROTECTED, and both
resets clear every bit with every slot FREE (R168). -/
def Obligations.DoneSummaryFollowsTheSlots : Prop :=
  (∀ (s : State) (n : Nat), isSlot n = true →
    ((s.hostRead 0x0040#15 .word).getLsbD n = true ↔ (s.slot n).handover = .done)) ∧
  (∀ (s : State) (value : Word), s.writeRefusal 0x0040#15 .word value = some .protectedWord ∧
    ∃ t, exec (.hostWrite 0x0040#15 .word value) s = .next t ∧ t.hostRead 0x0040#15 .word = s.hostRead 0x0040#15 .word ∧ Noticed 7 t ∧
      (s.xp.capture.count = 0 → t.xp.capture.reason = some .protectedWord)) ∧
  (∀ (c : Instr) (s : State), c = .coldReset ∨ (∃ line, c = .ifaceReset line) →
    ∃ t, exec c s = .next t ∧ t.hostRead 0x0040#15 .word = 0 ∧ ∀ n, isSlot n = true → (t.slot n).handover = .free)

/-- The uptime count advances by one second and after 4,294,967,295 goes to 0; nothing else of the part moves but the change count of the site
summary, which shows the site timer's remaining time (R27, R165). The expiry of the presence timer: DETACHED, the lapse count risen to at most 255,
a running investigation ended in GENERAL, the trigger zone's alarm ESCALATED and the phases that change told (R12, R16, R141), and every indicator
decided again (R104). That the phases are told once each, in ascending zone number, is log entry 14 (DESIGN CHOICE). -/
def Obligations.ClockAndPresenceExpiry : Prop :=
  (∀ s : State, ∃ t, exec .uptimeTick s = .next t ∧ t.uptime = s.uptime + 1 ∧
      t.xp = { s.xp with seconds := s.xp.seconds + 1, siteCount := t.xp.siteCount } ∧
      Keeps [.ou, .ps, .lc, .za, .du, .cu, .rl, .mail, .mem, .pending] s t) ∧
  (∀ (s : State) (e : Nat), s.xp.attach = .attached → s.xp.presenceEnd = some e → e ≤ s.now →
      ∃ t, exec .presenceTimerExpiry s = .next t ∧ t.xp.attach = .detached ∧ t.xp.presenceEnd = none ∧
        t.xp.lapse = (if 255 ≤ s.xp.lapse then 255 else s.xp.lapse + 1) ∧
        (s.za.seq = .awaitAck ∨ s.za.seq = .searching → t.za.seq = .general ∧ t.za.siteEnd = none ∧ Noticed 1 t ∧
          ∀ z ∈ s.za.first.head?, isZone z = true → InvestigationEnds s t z) ∧
        (s.za.seq = .calm ∨ s.za.seq = .general → Keeps [.za, .mail] s t) ∧ Keeps [.ou, .ps, .mem, .pending] s t ∧
        (∀ h, s.plan.helpPlanned h = true → (t.cu.helps.get h).indicator = some (t.indicatorOf h)) ∧ HelpsHanded s t ∧
        t.xp.lineEnable = s.xp.lineEnable ∧ t.xp.mask = s.xp.mask ∧ t.xp.capture = s.xp.capture)

/-! ### The order unit -/

/-- TAKE (R161): the head leaves the queue and its order goes to its owner TAKEN with its result area zeroed, or completes with the code of the first
generic check that fails. -/
def Obligations.TakeMakesTheGenericChecks : Prop :=
  ∀ (s : State) (n : Nat) (q : List Nat), s.ou.working = none → s.ou.queue = n :: q → isSlot n = true →
    (s.slot n).handover = .committed →
    ∃ t, exec .take s = .next t ∧ t.ou.queue = q ∧ t.ou.held = s.ou.held ∧ (∀ m, m ≠ n → t.slot m = s.slot m) ∧
      Keeps [.ps, .lc, .za, .du, .cu, .rl, .mail, .mem, .pending] s t ∧ PortKept s t ∧
      let x := s.slot n
      let code := x.code.toNat
      let order := orderOf code (x.args.get 0).toNat (x.args.get 1).toNat (x.args.get 2).toNat
      if orderArity code ≠ some x.argCount.toNat then
        x.CompletedAs (t.slot n) .malformed [] ∧ t.ou.working = none ∧ Noticed 0 t
      else if code ≠ 0x01 ∧ code ≠ 0x60 ∧ s.ps.active = none then
        x.CompletedAs (t.slot n) .noPlan [] ∧ t.ou.working = none ∧ Noticed 0 t
      else
        match order with
        | none => x.CompletedAs (t.slot n) .noSuch [] ∧ t.ou.working = none ∧ Noticed 0 t
        | some o =>
          if o.argsOk s.plan then
            (t.slot n).handover = .taken ∧ (∀ k, 9 ≤ k → k ≤ 15 → (t.slot n).wordAt k = 0) ∧
              (∀ k, 1 ≤ k → k ≤ 8 → (t.slot n).wordAt k = x.wordAt k) ∧
              t.ou.working = some { slot := some n, order := o, tag := x.tag }
          else x.CompletedAs (t.slot n) .noSuch [] ∧ t.ou.working = none ∧ Noticed 0 t

/-- CANCEL (R164), by the state of its target. -/
def Obligations.CancelByItsTarget : Prop :=
  ∀ (s : State) (own n : Nat), OrdersOk s → Works s own (.cancel n) →
    ∃ t, exec .cancel s = .next t ∧ (s.slot own).CompletedAs (t.slot own)
      (if n = own then .malformed
        else match (s.slot n).handover with
          | .free => .noSuch
          | .committed => .noSuch
          | .done => .kept
          | .taken => if n ∈ s.ou.held.map HeldOrder.slot then .ok else .noSuch) [] ∧
      Noticed 0 t ∧ t.ou.working = none ∧ t.ou.queue = s.ou.queue ∧ PortKept s t ∧ Keeps [.za, .du, .mail, .mem, .pending] s t ∧
      (∀ m, m ≠ own → m ≠ n → t.slot m = s.slot m) ∧
      (n ∉ s.ou.held.map HeldOrder.slot → t.ou.held = s.ou.held ∧ (n ≠ own → t.slot n = s.slot n) ∧ Keeps [.ps, .lc, .rl, .cu] s t) ∧
      (∀ owner, { slot := n, owner := owner } ∈ s.ou.held →
        t.ou.held = s.ou.held.filter (fun h => h.slot ≠ n) ∧
        match owner with
        | .loop _ => (s.slot n).CompletedAs (t.slot n) .cancelled [] ∧ Keeps [.ps, .lc, .rl, .cu] s t
        | .plan => (s.slot n).CompletedAs (t.slot n) .cancelled [] ∧ t.ps = { s.ps with staged := .edit } ∧ Keeps [.lc, .rl, .cu] s t
        | .lights => (t.slot n).handover = .done ∧ (t.slot n).completion = .cancelled ∧ t.rl.test = none ∧ LampOutputs s t ∧ Keeps [.cu] s t ∧
          ∀ q, s.rl.test = some q → TestEnds s t q .aborted .cancelled [0, q.failMask])

/-! ### The plan store -/

/-- COMMIT PLAN (R147). COPY PLAN (R155): in EDIT every byte of the active bank stands in the staged bank too, and nothing else moves. -/
def Obligations.PlanOrdersCommitAndCopy : Prop :=
  (∀ (s : State) (n : Nat) (deferred : Bool), Works s n (.commitPlan deferred) →
      ∃ t, exec .commitPlan s = .next t ∧ PortKept s t ∧ Keeps [.lc, .za, .du, .cu, .rl, .mail, .mem, .pending] s t ∧
        if s.ps.staged = .edit then
          t.ps = { s.ps with staged := .checking, deferred := deferred } ∧ OrderHeld s t n .plan ∧ Noticed 6 t
        else t.ps = s.ps ∧ OrderEnds s t n .refusedState []) ∧
  (∀ (s : State) (n : Nat) (bank : Bank), s.mem.wf → s.ps.active = some bank → Works s n .copyPlan →
      ∃ t, exec .copyPlan s = .next t ∧ PortKept s t ∧ Keeps [.ps, .lc, .za, .du, .cu, .rl, .mail, .pending] s t ∧
        if s.ps.staged = .edit then
          OrderEnds s t n .ok [] ∧
            ∀ o, Memory.read t.mem o =
              if s.ps.stagedBank.base ≤ o ∧ o < s.ps.stagedBank.base + 0x2800
              then Memory.read s.mem (o - s.ps.stagedBank.base + bank.base) else Memory.read s.mem o
        else OrderEnds s t n .refusedState [] ∧ t.mem = s.mem)

/-- The end of validation (R148, R150, R151) while a COMMIT PLAN is held in slot `n`: the first failing check refuses the plan; a plan that passes is
activated on a quiet site or where none is active, waits in DEFERRED mode and is refused in IMMEDIATE mode. PS decides again at each report (R151): a
commit in WAITING activates on a quiet site, and goes on waiting otherwise. The commands name the report taken, and ACTIVATION a decision that comes
of itself (log entry 10). -/
def Obligations.CommitsAreDecided : Prop :=
  (∀ (s : State) (n : Nat), OrdersOk s → s.ps.staged = .checking → { slot := n, owner := .plan } ∈ s.ou.held →
      ∃ t, exec .validationEnd s = .next t ∧ t.mem = s.mem ∧
        match s.staged.validate with
        | some (check, index) =>
          t.ps = { s.ps with staged := .edit, lastCheck := check, lastIndex := index } ∧
            (s.slot n).CompletedAs (t.slot n) .invalidPlan [wordOf check, wordOf index] ∧
            (∀ m, m ≠ n → t.slot m = s.slot m) ∧ t.ou.held = s.ou.held.filter (fun h => h.slot ≠ n) ∧ Noticed 6 t ∧ Noticed 0 t ∧
            PortKept s t ∧ Keeps [.lc, .za, .du, .cu, .rl, .mail, .pending] s t
        | none =>
          if s.ps.active = none ∨ (s.za.seq = .calm ∧ s.rl.test = none) then Activated s t n
          else if s.ps.deferred then
            t.ps = { s.ps with staged := .waiting, lastCheck := 0, lastIndex := 0 } ∧ Noticed 6 t ∧ PortKept s t ∧
              Keeps [.ou, .lc, .za, .du, .cu, .rl, .mail, .pending] s t
          else
            t.ps = { s.ps with staged := .edit, lastCheck := 0, lastIndex := 0 } ∧
              (s.slot n).CompletedAs (t.slot n) .refusedSite [] ∧ (∀ m, m ≠ n → t.slot m = s.slot m) ∧
              t.ou.held = s.ou.held.filter (fun h => h.slot ≠ n) ∧ Noticed 6 t ∧ Noticed 0 t ∧ PortKept s t ∧
              Keeps [.lc, .za, .du, .cu, .rl, .mail, .pending] s t) ∧
  (∀ (s : State) (n : Nat) (c : Instr), OrdersOk s → s.ps.staged = .waiting →
      { slot := n, owner := .plan } ∈ s.ou.held →
      (c = .sequenceCalmReport ∧ 0 < s.ps.calmReports) ∨ (c = .testEndedReport ∧ 0 < s.ps.testReports) ∨ c = .activation →
      ∃ t, exec c s = .next t ∧ t.mem = s.mem ∧
        if s.ps.active = none ∨ (s.za.seq = .calm ∧ s.rl.test = none) then Activated s t n
        else t.ps.staged = .waiting ∧ t.ps.active = s.ps.active ∧ PortKept s t ∧
          t.ps.calmReports = s.ps.calmReports - (if c = .sequenceCalmReport then 1 else 0) ∧
          t.ps.testReports = s.ps.testReports - (if c = .testEndedReport then 1 else 0) ∧
          Keeps [.ou, .lc, .za, .du, .cu, .rl, .mail, .pending] s t)

/-- What the units take up at an activation on a quiet site (R29, R51, R55, R56, R58, R83, R106, R131, R138). The order of the units and the alerts
after them are log entry 11 (DESIGN CHOICE), the commands that activate log entry 10, a key set held under the new plan log entry 37 (DEDUCED), one
rewrite of a record for each command log entry 5, the reserve of a circuit begun log entry 45 (DESIGN CHOICE), the reported kind cleared with an EXTRA mark
log entry 51 (DEDUCED), the phases that change told once each in ascending zone number log entry 14 (DESIGN CHOICE), the output of a removed door's device
discarded though the device remains planned log entry 59 (DESIGN CHOICE), timers that meet their new limits after the door has taken its new regime
log entry 60 (DESIGN CHOICE). -/
def Obligations.ActivationIsTakenUp : Prop :=
  ∀ (s : State) (c : Instr), MemoryOk s → PlanOk s → OrdersOk s → AlarmsOk s → CallsOk s → RoutesOk s →
    s.za.seq = .calm → s.rl.test = none →
    (s.ps.staged = .checking ∧ s.staged.validate = none ∧ (c = .validationEnd ∨ c = .activation)) ∨
      (s.ps.staged = .waiting ∧ ((c = .sequenceCalmReport ∧ 0 < s.ps.calmReports) ∨ (c = .testEndedReport ∧ 0 < s.ps.testReports) ∨
        c = .activation)) →
    ∃ t, exec c s = .next t ∧ t.ps.active = some s.ps.stagedBank ∧ t.mem = s.mem ∧
      LoopsTakenUp s t ∧ ZonesTakenUp s t ∧ DoorsTakenUp s t ∧ CallsTakenUp s t ∧ RoutesTakenUp s t

/-! ### Invariants of the exchange -/

/-- The plan banks keep their canonical form, rising offsets and no byte of 0, which is the model's own representation of them (log entry 25,
DEDUCED). -/
def Obligations.MemoryStaysCanonical : Prop :=
  ∀ s t : State, MemoryOk s → step s = .next t → MemoryOk t

/-- The commit queue holds exactly the COMMITTED slots, each once (R160), and the slots being worked on and held are TAKEN (R162, R163). -/
def Obligations.QueueHoldsTheCommittedSlots : Prop :=
  ∀ s t : State, SlotsOk s → step s = .next t → SlotsOk t

/-- Every held order has an operation of its own that runs, and every TAKEN slot is worked on or held (R162, R163). The held-order list holds at most
6 entries (R163). -/
def Obligations.HeldOrdersStayBacked : Prop :=
  (∀ s t : State, OrdersOk s → step s = .next t → OrdersOk t) ∧
  (∀ s : State, HeldOk s → s.ou.held.length ≤ 6)

/-- What a cold reset leaves in the units (R28, R54, R82, R105, R130, R132, R139), and that the invariants hold there. -/
def Obligations.ResetRestsTheUnits : Prop :=
  ∀ t : State, t = State.reset ∨ (∃ s, exec .coldReset s = .next t) →
    (∀ z, isZone z = true → (t.zone z).cond = .unplanned ∧ (t.zone z).cause = .none ∧ (t.rl.zones.get z).selection = .none ∧
      (t.rl.zones.get z).stranded = false) ∧
    (∀ a, isArea a = true → (t.area a).regime = .day ∧ (t.area a).phase = .none ∧ (t.area a).closingEnd = none) ∧
    t.za.seq = .calm ∧ t.za.siteEnd = none ∧ t.za.silenced = false ∧ t.za.keysHeld = false ∧ t.za.first = [] ∧
    (∀ l, isLoop l = true → (t.loop l).state = .idle ∧ (t.loop l).sweep = none ∧ (t.loop l).disagree = 0) ∧
    (∀ i, 1 ≤ i → i ≤ 384 → (t.device i).cond = .none ∧ (t.device i).extra = false ∧ (t.detector i).state = .normal ∧
      (t.detector i).latched = false) ∧
    (∀ d, isDoor d = true → (t.door d).cond = .none ∧ (t.door d).hold = none ∧ (t.door d).pass = none ∧ (t.door d).lockdown = false) ∧
    t.cu.calls = [] ∧ t.cu.serial = 0 ∧ (∀ c, isCircuit c = true → (t.rl.circuits.get c).state = .none) ∧ t.rl.test = none ∧
    t.rl.claims = [] ∧ t.xp.presenceEnd = none ∧ t.xp.lapse = 0 ∧
    MemoryOk t ∧ PlanOk t ∧ OrdersOk t ∧ AlarmsOk t ∧ DoorsOk t ∧ CallsOk t ∧ RoutesOk t ∧ LightsOk t

/-- No command changes a byte of the active plan while the bank stays active (R145, R146, R157). -/
def Obligations.ActivePlanIsNeverWritten : Prop :=
  ∀ (c : Instr) (s t : State) (bank : Bank), s.mem.wf → exec c s = .next t → s.ps.active = some bank → t.ps.active = some bank →
    ∀ o, bank.base ≤ o → o < bank.base + 0x2800 → Memory.read t.mem o = Memory.read s.mem o

/-- Only a plan that has passed validation is active or waits for activation, after every step (R148, R150, R151, R154). -/
def Obligations.OnlyValidPlansBecomeActive : Prop :=
  ∀ s t : State, MemoryOk s → PlanOk s → step s = .next t → PlanOk t

/-! ### Zones, areas and the site sequence -/

/-- ACKNOWLEDGE in each state of the sequence (R15); once acknowledged, T_ack does not expire. -/
def Obligations.AcknowledgeStartsTheSearch : Prop :=
  ∀ (s : State) (n : Nat), Works s n .acknowledge →
    ∃ t, exec .acknowledge s = .next t ∧ PortKept s t ∧ Keeps [.ps, .lc, .du, .cu, .rl, .mail, .mem, .pending] s t ∧
      match s.za.seq with
      | .awaitAck =>
        OrderEnds s t n .ok [] ∧ t.za = { s.za with seq := .searching, siteEnd := some (s.now + s.plan.tSearch) } ∧ Noticed 1 t ∧
          exec .tAckExpiry t = .next t
      | .searching => OrderEnds s t n .kept [] ∧ t.za = s.za
      | .calm => OrderEnds s t n .refusedState [] ∧ t.za = s.za
      | .general => OrderEnds s t n .refusedState [] ∧ t.za = s.za

/-- SILENCE and RESOUND (R22, R23, R25): the silenced mark and every planned sounder's output move in GENERAL, nothing else. -/
def Obligations.SilenceAndResoundMoveTheSounders : Prop :=
  ∀ (s : State) (n : Nat) (quiet : Bool), Works s n (if quiet then .silence else .resound) →
    ∃ t, exec (if quiet then .silence else .resound) s = .next t ∧ PortKept s t ∧
      Keeps [.ps, .du, .cu, .rl, .mail, .mem, .pending] s t ∧
      if s.za.seq = .general ∧ s.za.silenced = !quiet then
        OrderEnds s t n .ok [] ∧ Noticed 1 t ∧ t.za = { s.za with silenced := quiet } ∧ t.lc.loops = s.lc.loops ∧
          ∀ i, 1 ≤ i → i ≤ 384 →
            if s.plan.deviceKind i = some .sounder then
              (t.device i).handed = some (if quiet then 0
                else match (s.zone (s.plan.deviceZone i)).phase with
                  | .none => 0
                  | .alert => 1
                  | .evacuate => 2) ∧
              { t.device i with handed := none, output := none } = { s.device i with handed := none, output := none }
            else t.device i = s.device i
      else OrderEnds s t n .kept [] ∧ t.za = s.za ∧ t.lc = s.lc

/-- EVACUATE (R20): an investigation ends first, the trigger zone's alarm ESCALATED and the areas round it moved (R16, R17), then the areas named go to
EVACUATE, the sequence becomes GENERAL, the sounders hold their outputs (R25) and ZA tells of each change of an effective phase, those round the trigger
zone before the others (R12). That each of these two groups of phases is told once, in ascending zone number, is log entry 14 (DESIGN CHOICE). -/
def Obligations.EvacuateMovesTheNamedAreas : Prop :=
  ∀ (s : State) (n : Nat) (area : Option Nat), AlarmsOk s → Works s n (.evacuate area) →
    ∃ t, exec .evacuate s = .next t ∧ PortKept s t ∧ Keeps [.ps, .rl, .mem, .pending] s t ∧
      let named := fun a => isArea a = true ∧ s.plan.areaPlanned a = true ∧ (area = none ∨ area = some a)
      t.za.seq = .general ∧ (∀ a, named a → (t.area a).phase = .evacuate) ∧ t.za.first = s.za.first ∧
      (∀ z, (t.zone z).cond = (s.zone z).cond) ∧ t.za.detectors = s.za.detectors ∧ t.za.keysHeld = s.za.keysHeld ∧
      (∀ z, isZone z = true → (t.zone z).phase = s.plan.phaseUnder t.area z) ∧ t.mail.rlOut = s.mail.rlOut ∧
      (∀ a, isArea a = true → (t.area a).regime = (s.area a).regime ∧ (t.area a).closingEnd = (s.area a).closingEnd) ∧
      (s.za.seq = .general → (∀ a, named a → (s.area a).phase = .evacuate) →
        OrderEnds s t n .kept [] ∧ t.za = s.za ∧ Keeps [.lc, .du, .cu, .mail] s t) ∧
      (s.za.seq ≠ .general ∨ (∃ a, named a ∧ (s.area a).phase ≠ .evacuate) →
        OrderEnds s t n .ok [] ∧ t.za.silenced = false ∧ t.za.siteEnd = none ∧ Noticed 1 t ∧
        (∀ a, named a → (t.area a).phaseEnd = none) ∧ SoundersHanded s t ∧
        (s.za.seq = .calm ∨ s.za.seq = .general →
          ZaTells s t (phaseChanges s t) ∧
          (∀ a, isArea a = true → ¬ named a → t.area a = s.area a) ∧ ∀ w, (t.zone w).cause = (s.zone w).cause) ∧
        (s.za.seq = .awaitAck ∨ s.za.seq = .searching → ∀ z ∈ s.za.first.head?, CausesAfterSearch s t z none ∧
          ZaTells s t (phaseChangesRound s t z) ∧
          ∀ a, isArea a = true → ¬ named a → t.area a = s.roundEvacuate z a))

/-- RESET SITE (R24, R137). ZA tells of each zone that leaves ALARM (R24) and of each effective phase that changes (R12), in that order and ascending,
which is log entry 14 (DESIGN CHOICE). -/
def Obligations.ResetSiteEndsTheAlarm : Prop :=
  ∀ (s : State) (n : Nat), AlarmsOk s → Works s n .resetSite →
    ∃ t, exec .resetSite s = .next t ∧ PortKept s t ∧ Keeps [.rl, .mem, .pending] s t ∧ t.mail.rlOut = s.mail.rlOut ∧
      let latched := ∃ i, 1 ≤ i ∧ i ≤ 384 ∧ (s.detector i).latched = true
      (s.za.keysHeld = true → OrderEnds s t n .refusedState [] ∧ t.za = s.za ∧ Keeps [.ps, .lc, .du, .cu, .mail] s t) ∧
      (s.za.keysHeld = false → s.za.seq = .calm → ¬ latched →
        OrderEnds s t n .kept [] ∧ t.za = s.za ∧ Keeps [.ps, .lc, .du, .cu, .mail] s t) ∧
      (s.za.keysHeld = false → s.za.seq ≠ .calm ∨ latched →
        OrderEnds s t n .ok [] ∧ Noticed 1 t ∧ t.za.seq = .calm ∧ t.za.siteEnd = none ∧ t.za.silenced = false ∧ t.za.first = [] ∧
        t.za.keysHeld = false ∧
        ZaTells s t ((PlanBank.zoneNumbers.filter (fun z => (s.zone z).cond = .alarm)).map (fun z => .alarm z false) ++ phaseChanges s t) ∧
        (∀ a, isArea a = true → t.area a = { s.area a with phase := .none, phaseEnd := none }) ∧
        (∀ i, 1 ≤ i → i ≤ 384 →
          (t.detector i).latched = false ∧ (t.detector i).confirm = 0 ∧ (t.detector i).testHit = (s.detector i).testHit ∧
          (t.detector i).state =
            if (s.device i).cond = .ok ∧ s.plan.deviceKind i = some .detector ∧
              (s.alarmThreshold i ≤ (s.device i).value.toNat % 256 ∨ s.plan.warnThreshold i ≤ (s.device i).value.toNat % 256)
            then .warn else .normal) ∧
        (∀ z, isZone z = true →
          (t.zone z).cond =
            (if (s.zone z).cond = .alarm ∨ (s.zone z).cond = .quiet ∨ (s.zone z).cond = .warn then
              (if 1 ≤ t.countState .detector .warn z then .warn else .quiet)
             else (s.zone z).cond) ∧
          ((s.zone z).cond = .alarm → (t.zone z).cause = .none ∧ (t.zone z).detCount = 0 ∧ (t.zone z).entry = 0) ∧
          (t.zone z).testCount = (s.zone z).testCount ∧ (t.zone z).phase = .none) ∧
        (∀ d, isDoor d = true → (t.door d).keys = false) ∧
        t.ps = { s.ps with calmReports := s.ps.calmReports + (if s.za.seq = .calm then 0 else 1) })

/-- ISOLATE ZONE and TEST ZONE (R9, R10). RESTORE ZONE (R11): the zone's devices in ALARM are latched, and the zone takes the condition R5 gives it
from QUIET, a new alarm being told as any other (R7, R12). That the phases that change with it are told in ascending zone number, once for each group of
areas that moves together, is log entry 14 (DESIGN CHOICE). -/
def Obligations.ZoneOrdersMoveTheZone : Prop :=
  (∀ (s : State) (n z : Nat),
      (Works s n (.isolateZone z) → ∃ t, exec .isolateZone s = .next t ∧ PortKept s t ∧
        Keeps [.ps, .lc, .du, .cu, .rl, .mail, .mem, .pending] s t ∧
        match (s.zone z).cond with
        | .alarm => OrderEnds s t n .refusedState [] ∧ t.za = s.za
        | .isolated => OrderEnds s t n .kept [] ∧ t.za = s.za
        | _ => OrderEnds s t n .ok [] ∧ Noticed 1 t ∧ t.za = { s.za with zones := t.za.zones } ∧
            t.zone z = { s.zone z with cond := .isolated } ∧ ∀ y, y ≠ z → t.zone y = s.zone y) ∧
      (Works s n (.testZone z) → ∃ t, exec .testZone s = .next t ∧ PortKept s t ∧
        Keeps [.ps, .lc, .du, .cu, .rl, .mail, .mem, .pending] s t ∧
        match (s.zone z).cond with
        | .alarm => OrderEnds s t n .refusedState [] ∧ t.za = s.za
        | .test => OrderEnds s t n .kept [] ∧ t.za = s.za
        | _ => OrderEnds s t n .ok [] ∧ Noticed 1 t ∧ t.za = { s.za with zones := t.za.zones, detectors := t.za.detectors } ∧
            t.zone z = { s.zone z with cond := .test, testCount := 0 } ∧ (∀ y, y ≠ z → t.zone y = s.zone y) ∧
            ∀ i, 1 ≤ i → i ≤ 384 → t.detector i =
              if s.plan.deviceZone i = z ∧ (s.plan.deviceKind i = some .detector ∨ s.plan.deviceKind i = some .breakglass)
              then { s.detector i with testHit := false } else s.detector i)) ∧
  (∀ (s : State) (n z : Nat), AlarmsOk s → Works s n (.restoreZone z) →
      ∃ t, exec .restoreZone s = .next t ∧ PortKept s t ∧ Keeps [.ps, .rl, .mem, .pending] s t ∧
        if (s.zone z).cond = .isolated ∨ (s.zone z).cond = .test then
          OrderEnds s t n .ok [] ∧ Noticed 1 t ∧ (t.zone z).cond = (s.verdict z).1 ∧ (t.zone z).testCount = (s.zone z).testCount ∧
          (∀ y, y ≠ z → (t.zone y).cond = (s.zone y).cond) ∧
          (∀ i, 1 ≤ i → i ≤ 384 → t.detector i =
            if (s.detector i).state = .alarm ∧ s.plan.deviceZone i = z ∧
              (s.plan.deviceKind i = some .detector ∨ s.plan.deviceKind i = some .breakglass)
            then { s.detector i with latched := true } else s.detector i) ∧
          (if (s.verdict z).1 = .alarm then
            t.za.first = s.za.first ++ [z] ∧ (t.zone z).cause = (s.verdict z).2 ∧ (t.zone z).entry = s.now ∧
              .alarm z true ∈ t.mail.zaOut ∧ AlarmTold s t z ∧ t.za.seq ≠ .calm
           else t.za.first = s.za.first ∧ t.za.seq = s.za.seq ∧ Keeps [.lc, .du, .cu, .mail] s t)
        else OrderEnds s t n .kept [] ∧ t.za = s.za ∧ Keeps [.lc, .du, .cu, .mail] s t)

/-- SET REGIME (R133): the named area and its planned descendants, toward NIGHT through CLOSING with the named area's timeout, or to DAY; an area
whose closing condition holds goes to NIGHT within the order (R135), and each change of regime rewrites the area record (R134; its other changes
within the command are covered by that rewrite, log entry 5, DESIGN CHOICE). The expiry of an area's closing timer (R136): the area goes to NIGHT, no
other area's regime or closing moves, and DU sends its LEFT_OPEN alerts (R72), by the condition it holds at that moment (log entry 46, DESIGN CHOICE).
The trigger zone becoming NIGHT by either ends the investigation (R16, R134), the sounders holding their outputs after it (R25) and the effective phases
that change being told (R12), once each in ascending zone number, which is log entry 14 (DESIGN CHOICE). -/
def Obligations.RegimesMoveByOrderAndByTimer : Prop :=
  (∀ (s : State) (n a : Nat) (night : Bool), Works s n (.setRegime a night) →
      ∃ t, exec .setRegime s = .next t ∧ PortKept s t ∧ Keeps [.ps, .rl, .mem, .pending] s t ∧
        let concerned := fun b => s.plan.areaPlanned b = true ∧ s.plan.isWithin a b = true
        let changes := fun b => if night then (s.area b).regime = .day else (s.area b).regime ≠ .day
        let moved := (List.range 24).filter (fun b => s.plan.areaPlanned b && s.plan.isWithin a b
          && (if night then decide ((s.area b).regime = .day) else decide ((s.area b).regime ≠ .day)))
        OrderEnds s t n (if moved = [] then .kept else .ok) [wordOf moved.length] ∧
        (moved ≠ [] → Noticed 1 t) ∧
        (∀ b, isArea b = true → ¬ (concerned b ∧ changes b) →
          (t.area b).regime = (s.area b).regime ∧ (t.area b).closingEnd = (s.area b).closingEnd) ∧
        (∀ b, isArea b = true → concerned b → changes b →
          t.xp.counts.get (120 + b) = s.xp.counts.get (120 + b) + (if night = true ∧ s.closingHolds b = true then 4 else 2) ∧
          if night then
            (if s.closingHolds b then (t.area b).regime = .night ∧ (t.area b).closingEnd = none
             else (t.area b).regime = .closing ∧ (t.area b).closingEnd = some (s.now + s.plan.closingTimeout a))
          else (t.area b).regime = .day ∧ (t.area b).closingEnd = none) ∧
        NightEndsSearch s t (fun b => night = true ∧ concerned b ∧ changes b ∧ s.closingHolds b = true) ∧
        (t.za.seq ≠ s.za.seq → SoundersHanded s t) ∧ t.mail.rlOut = s.mail.rlOut ∧
        (∀ z, (t.zone z).cond = (s.zone z).cond) ∧ t.za.detectors = s.za.detectors ∧ t.za.first = s.za.first) ∧
  (∀ (s : State) (a e : Nat), isArea a = true → (s.area a).regime = .closing → (s.area a).closingEnd = some e → e ≤ s.now →
      ∃ t, exec (.closingTimerExpiry a) s = .next t ∧ (t.area a).regime = .night ∧ (t.area a).closingEnd = none ∧
        (∀ b, b ≠ a → (t.area b).regime = (s.area b).regime ∧ (t.area b).closingEnd = (s.area b).closingEnd) ∧
        NightEndsSearch s t (fun b => b = a) ∧ (t.za.seq ≠ s.za.seq → SoundersHanded s t) ∧ t.mail.rlOut = s.mail.rlOut ∧
        (∀ z, (t.zone z).cond = (s.zone z).cond) ∧ t.za.first = s.za.first ∧ t.za.detectors = s.za.detectors ∧
        PortKept s t ∧ Keeps [.ou, .ps, .rl, .mem, .pending] s t ∧ t.xp.counts.get (120 + a) = s.xp.counts.get (120 + a) + 2 ∧
        let late := (List.range' 1 64).filter (fun d =>
          s.plan.publicOrStaff d && s.plan.inArea a (s.plan.doorZone d) && decide ((s.door d).cond ≠ .secure))
        (∀ d ∈ late, (∃ c ∈ t.cu.calls, c.source = 80 + d ∧ 2 ≤ c.level) ∨
          (∃ r ∈ (t.cu.sources.get (80 + d)).pending, 2 ≤ r.1)) ∧
        ((∀ d, isDoor d = true → s.plan.doorPlanned d = true → (s.door d).refresh (s.doorView d) = s.door d) →
          s.za.seq = .calm ∨ s.za.seq = .general →
          { t.cu with helps := s.cu.helps } = late.foldl (fun cu d =>
            (cu.takePress s.now (({ s with cu := cu } : State).alertPress d .leftOpen 2)).decideOffer s.plan.nested) s.cu))

/-- The expiry of T_ack in AWAIT_ACK and of T_search in SEARCHING ends the investigation in GENERAL for the trigger zone (R16, R17). The expiry of an
area's phase timer moves that area alone to EVACUATE, and the zones' effective phases and the sounders' outputs follow (R12, R19, R25). ZA tells of each
effective phase that changes with either (R12), once and in ascending zone number, which is log entry 14 (DESIGN CHOICE). -/
def Obligations.SiteAndPhaseTimersExpire : Prop :=
  (∀ (s : State) (c : Instr) (z e : Nat) (rest : List Nat), s.za.first = z :: rest → isZone z = true →
      (c = .tAckExpiry ∧ s.za.seq = .awaitAck) ∨ (c = .tSearchExpiry ∧ s.za.seq = .searching) →
      s.za.siteEnd = some e → e ≤ s.now →
      ∃ t, exec c s = .next t ∧ InvestigationEnds s t z ∧ PortKept s t ∧ Keeps [.ou, .ps, .rl, .mem, .pending] s t ∧
        (∀ y, (t.zone y).cond = (s.zone y).cond) ∧ t.za.first = s.za.first ∧ t.za.detectors = s.za.detectors ∧
        t.za.keysHeld = s.za.keysHeld ∧ t.mail.rlOut = s.mail.rlOut) ∧
  (∀ (s : State) (a e : Nat), isArea a = true → (s.area a).phase = .alert → (s.area a).phaseEnd = some e → e ≤ s.now →
      ∃ t, exec (.phaseTimerExpiry a) s = .next t ∧ t.area a = { s.area a with phase := .evacuate, phaseEnd := none } ∧
        (∀ b, b ≠ a → t.area b = s.area b) ∧ Noticed 1 t ∧ t.za.seq = s.za.seq ∧ t.za.first = s.za.first ∧
        t.za.detectors = s.za.detectors ∧
        (∀ z, isZone z = true → (t.zone z).cond = (s.zone z).cond ∧
          (t.zone z).phase = (if s.plan.zonePlanned z then t.effectivePhase z else .none)) ∧ SoundersHanded s t ∧
        ZaTells s t (phaseChanges s t) ∧ t.mail.rlOut = s.mail.rlOut ∧
        PortKept s t ∧ Keeps [.ou, .ps, .rl, .mem, .pending] s t)

/-- A detector's reading and a break-glass contact (R2, R4); R5's table, as an evaluation of a QUIET or WARN zone applies it; a zone entering ALARM
(R7), which the site sequence takes by its state (R14, R16 to R18), the areas round the trigger zone of an investigation it ends moved before those
round its own; and a device decided in a zone in ALARM (R6, R16) or in TEST (R10). ZA tells of the zone entering ALARM (R7) and of each effective phase
that changes (R12), in ascending zone number and once for each group of areas that moves together, which is log entry 14 (DESIGN CHOICE). A second or a
later detector gives COINCIDENT, log entry 40 (DEDUCED). -/
def Obligations.AlarmsAreDecided : Prop :=
  (∀ (warn alarm confirm level : Nat) (may : Bool) (x : Detector),
      let y := x.reading warn alarm confirm level may
      y.testHit = x.testHit ∧
      (x.state = .alarm → x.latched = true → y = x) ∧
      (x.state = .alarm → x.latched = false → alarm ≤ level → y = { x with confirm := confirm }) ∧
      (x.state ≠ .alarm → alarm ≤ level → confirm ≤ x.confirm + 1 → y = { x with state := .alarm, confirm := confirm, latched := may }) ∧
      (x.state ≠ .alarm → alarm ≤ level → x.confirm + 1 < confirm → y = { x with state := .warn, confirm := x.confirm + 1 }) ∧
      (x.state ≠ .alarm ∨ x.latched = false → level < alarm → warn ≤ level → y = { x with state := .warn, confirm := 0 }) ∧
      (x.state ≠ .alarm ∨ x.latched = false → level < alarm → level < warn → y = { x with state := .normal, confirm := 0 }) ∧
      (x.contact true may).state = .alarm ∧ (x.contact true may).latched = (x.latched || may) ∧
      (x.contact false may).latched = x.latched ∧ (x.contact false may).state = (if x.latched then x.state else .normal)) ∧
  (∀ (s : State) (z : Nat), AlarmsOk s → isZone z = true → (s.zone z).cond = .quiet ∨ (s.zone z).cond = .warn →
      let t := s.evalZone z
      let n := s.countState .detector .alarm z
      let b := s.countState .breakglass .alarm z
      let on := s.coincidence z
      (1 ≤ b → (t.zone z).cond = .alarm ∧ (t.zone z).cause = .manual) ∧
      (b = 0 → 2 ≤ n → on = true → (t.zone z).cond = .alarm ∧ (t.zone z).cause = .coincident) ∧
      (b = 0 → 1 ≤ n → on = false → (t.zone z).cond = .alarm ∧ (t.zone z).cause = .detector) ∧
      (b = 0 → n = 1 → on = true → (t.zone z).cond = .warn) ∧
      (b = 0 → n = 0 → 1 ≤ s.countState .detector .warn z → (t.zone z).cond = .warn) ∧
      (b = 0 → n = 0 → s.countState .detector .warn z = 0 → (t.zone z).cond = .quiet) ∧
      ((t.zone z).cond = .alarm → t = s.enterAlarm z (t.zone z).cause) ∧
      ((t.zone z).cond ≠ .alarm → t.za.seq = s.za.seq ∧ t.za.first = s.za.first ∧
        Keeps [.xp, .ou, .ps, .lc, .du, .cu, .rl, .mail, .mem, .pending] s t) ∧
      ∀ y, y ≠ z → (t.zone y).cond = (s.zone y).cond) ∧
  (∀ (s : State) (z : Nat) (cause : Cause), AlarmsOk s → isZone z = true → (s.zone z).cond = .quiet ∨ (s.zone z).cond = .warn →
      let t := s.enterAlarm z cause
      (t.zone z).cond = .alarm ∧ (t.zone z).cause = cause ∧ (t.zone z).entry = s.now ∧
      (t.zone z).detCount = s.countState .detector .alarm z ∧ t.za.first = s.za.first ++ [z] ∧ .alarm z true ∈ t.mail.zaOut ∧
      AlarmTold s t z ∧ t.mail.rlOut = s.mail.rlOut ∧
      (if s.za.seq = .calm ∧ cause = .detector ∧ s.regimeOf z = .day ∧ s.plan.investigationAllowed z = true ∧ s.xp.attach = .attached then
        t.za.seq = .awaitAck ∧ t.za.siteEnd = some (s.now + s.plan.tAck) ∧ t.za.areas = s.za.areas
       else
        t.za.seq = .general ∧ t.za.silenced = false ∧ (∀ a ∈ s.plan.innermost z, isArea a = true → (t.area a).phase = .evacuate) ∧
          (s.za.seq = .calm ∨ s.za.seq = .general → AreasRoundEvacuate s t z) ∧
          (s.za.seq = .awaitAck ∨ s.za.seq = .searching → ∀ y ∈ s.za.first.head?, y ≠ z ∧ CausesAfterSearch s t y (some z) ∧
            ∀ b, isArea b = true → t.area b = s.roundFrom (s.roundEvacuate y) z b)) ∧
      (s.za.seq = .calm ∨ s.za.seq = .general → ∀ w, w ≠ z → (t.zone w).cause = (s.zone w).cause) ∧
      Keeps [.xp, .ou, .ps, .rl, .mem, .pending] s t) ∧
  (∀ (s : State) (i : Nat) (y : Detector) (e : DeviceEvent), AlarmsOk s → 1 ≤ i → i ≤ 384 → isZone (s.plan.deviceZone i) = true →
      (e = .detector ∧ s.plan.deviceKind i = some .detector) ∨ (e = .breakglass ∧ s.plan.deviceKind i = some .breakglass) →
      let t := s.decided i y e
      let z := s.plan.deviceZone i
      let x := s.detector i
      let entered := x.state ≠ .alarm ∧ y.state = .alarm
      let others := [Block.xp, .ou, .ps, .lc, .du, .cu, .rl, .mail, .mem, .pending]
      let was := (s.zone z).cause
      let n := t.countState .detector .alarm z
      let cause := if e = .breakglass ∧ entered ∧ (was = .detector ∨ was = .escalated ∨ was = .coincident) then Cause.manual
        else if e = .detector ∧ entered ∧ (was = .detector ∨ was = .escalated) ∧ 2 ≤ n ∧ s.coincidence z = true then Cause.coincident
        else was
      let ends := cause ≠ was ∧ s.za.first.head? = some z ∧ (s.za.seq = .awaitAck ∨ s.za.seq = .searching)
      (∀ j, j ≠ i → t.detector j = s.detector j) ∧
      ((s.zone z).cond = .test →
        t.detector i = { y with testHit := y.testHit || decide entered } ∧
        t.zone z = { s.zone z with
          testCount := if entered then (if 255 ≤ (s.zone z).testCount then 255 else (s.zone z).testCount + 1) else (s.zone z).testCount } ∧
        (∀ w, w ≠ z → t.zone w = s.zone w) ∧ t.za = { s.za with zones := t.za.zones, detectors := t.za.detectors } ∧ Keeps others s t) ∧
      ((s.zone z).cond ≠ .test → t.detector i = y) ∧
      ((s.zone z).cond = .isolated ∨ ((s.zone z).cond = .alarm ∧ x.state = y.state) →
        t.za = { s.za with detectors := t.za.detectors } ∧ Keeps others s t) ∧
      ((s.zone z).cond = .alarm → x.state ≠ y.state →
        (t.zone z).cond = .alarm ∧ (t.zone z).detCount = n ∧ (t.zone z).entry = (s.zone z).entry ∧ (t.zone z).cause = cause ∧
        (∀ w, w ≠ z → (t.zone w).cond = (s.zone w).cond ∧ (t.zone w).cause = (s.zone w).cause) ∧ t.za.first = s.za.first ∧
        (ends → t.za.seq = .general ∧ t.za.siteEnd = none ∧ t.za.silenced = false ∧ AreasRoundEvacuate s t z ∧
          ZaTells s t (phaseChanges s t)) ∧
        (¬ ends → t.za = { s.za with zones := t.za.zones, detectors := t.za.detectors } ∧ Keeps others s t)) ∧
      ((s.zone z).cond = .quiet ∨ (s.zone z).cond = .warn → t = (s.setDetector i (fun _ => y)).evalZone z))

/-- The alarm records of ZA agree with one another after every step (R12, R26). -/
def Obligations.AlarmRecordsStayConsistent : Prop :=
  ∀ s t : State, MemoryOk s → AlarmsOk s → step s = .next t → AlarmsOk t

/-! ### Doors and release keys -/

/-- The commands of the claims by their rank (R61), the holder output (R64), and the condition of a door as the first line of R65 that holds. -/
def Obligations.DoorTablesAreFollowed : Prop :=
  (∀ (v : DoorView) (x : Door),
      (x.pull = true ∨ x.keys = true ∨ x.evac = true → x.command v = false ∧ x.standing v = false) ∧
      (x.pull = false → x.keys = false → x.evac = false →
        (x.lockdown = true → x.command v = true ∧ x.standing v = true) ∧
        (x.lockdown = false →
          (∀ locked, x.hold = some locked → x.command v = locked ∧ x.standing v = locked) ∧
          (x.hold = none →
            (x.standing v = false ↔ v.kind = .publicDoor ∧ v.regime = .day) ∧
            (x.command v = false ↔ x.pass.isSome = true ∨ (v.kind = .publicDoor ∧ v.regime = .day)))))) ∧
  (∀ (v : DoorView) (x : Door),
      x.holder v = true ↔ v.kind = .fire ∧ v.holderMay = true ∧ v.regime = .day ∧ x.keys = false) ∧
  (∀ (s : State) (d : Nat),
      let v := s.doorView d
      let z := s.plan.doorZone d
      v.regime = s.regimeOf z ∧ (∀ k, s.plan.doorKind d = some k → v.kind = k) ∧
      (v.holderMay = true ↔
        s.plan.holderFlag d = true ∧ (s.zone z).phase = .none ∧ ∀ a ∈ s.plan.innermost z, s.alarmTally a = 0)) ∧
  (∀ (v : DoorView) (x : Door),
      (x.isolated = true → x.decide v = .isolated) ∧
      (x.isolated = false → v.reachable = false → x.decide v = .unknown) ∧
      (x.isolated = false → v.reachable = true →
        (x.forced = true → x.decide v = .forced) ∧
        (x.forced = false → x.failClose = true → x.decide v = .failClose) ∧
        (x.forced = false → x.failClose = false →
          (x.jam = .shut → x.decide v = .jammedShut) ∧ (x.jam = .free → x.decide v = .jammedFree) ∧
          (x.jam = .none →
            (x.held = true → x.decide v = .held) ∧
            (x.held = false → x.posOpen = true → x.decide v = .opened) ∧
            (x.held = false → x.posOpen = false →
              (x.decide v = .secure ↔ v.kind ≠ .fire ∧ x.command v = true ∧ x.lockEngaged = true) ∧
              (x.decide v ≠ .secure → x.decide v = .free))))))

/-- The position filter (R58): from a closed door without a candidate, fewer OPEN reports than the check count leave it closed, and the one that
completes the count, or the first where the count is 0 or 1, opens it; one CLOSED report in between discards the candidate. FORCED (R67): a report
sets the mark only at the acceptance of OPEN on a door that is not FIRE, was SECURE when OPEN was first seen, is commanded LOCKED and holds no PASS
claim, and then the forced count rises to at most 255. A report as a whole (R57 to R60, R62, R67, R71), and the loss of a door's device (R66). That an
alert follows the condition, decided once at the end of the report, is log entry 17 (DEDUCED). -/
def Obligations.DoorFiltersAccept : Prop :=
  (∀ (check n : Nat) (secure : Bool) (v : DoorView) (q : DoorInputs) (x : Door), x.posOpen = false → x.posCand = none → q.posOpen = true →
      let after := fun k : Nat => (List.replicate k q).foldl (fun y r => y.filterPos check secure v r) x
      (n < check → (after n).posOpen = false) ∧ (after (max 1 check)).posOpen = true ∧
        ∀ y : Door, y.posOpen = false → (y.filterPos check secure v { q with posOpen := false }).posCand = none) ∧
  (∀ (check passEnd : Nat) (v : DoorView) (q : DoorInputs) (x : Door),
      let y := x.takeReport check passEnd v q
      (x.forced = false → y.forced = true →
        v.kind ≠ .fire ∧ q.posOpen = true ∧ x.posOpen = false ∧ y.posOpen = true ∧ y.command v = true ∧ y.pass = none ∧
          (x.posCand = none → x.cond = .secure) ∧ (∀ c, x.posCand = some c → c.wasSecure = true) ∧
          y.forcedCount = (if 255 ≤ x.forcedCount then 255 else x.forcedCount + 1)) ∧
      (y.forcedCount ≠ x.forcedCount → y.forced = true)) ∧
  (∀ (s : State) (d : Nat) (value : Half), s.plan.doorPlanned d = true →
      let t := s.doorReport d value
      let x := s.door d
      let y := t.door d
      let v := s.doorView d
      let opened := value.getLsbD 0
      let pressed := value.getLsbD 1
      let operated := value.getLsbD 3
      let exits := (x.exitCand.getD 0) + 1
      let seen := ((x.posCand.map Candidate.count).getD 0) + 1
      let secure := match x.posCand with
        | none => x.cond = .secure
        | some c => c.wasSecure = true
      let marks := opened = true ∧ x.posOpen = false ∧ s.plan.checkCount d ≤ seen ∧ v.kind ≠ .fire ∧ secure ∧ y.command v = true ∧ y.pass = none
      let pulls := operated = true ∧ x.pullOperated = false
      let forcedLevel := if v.regime = .day then s.plan.dayLevel d else 3
      (x.isolated = true → t = s) ∧
      (x.isolated = false →
        DoorMoved s t d ∧ y.isolated = false ∧ y.settle = false ∧ y.lockEngaged = value.getLsbD 2 ∧ y.pullOperated = operated ∧
        y.keys = x.keys ∧ y.evac = x.evac ∧ y.lockdown = x.lockdown ∧ y.hold = x.hold) ∧
      (x.isolated = false → x.settle = true →
        y.posOpen = opened ∧ y.exitPressed = pressed ∧ y.posCand = none ∧ y.exitCand = none ∧ y.pull = (x.pull || operated) ∧
        y.pass = x.pass ∧ y.forcedCount = x.forcedCount ∧ (y.forced = true → x.forced = true) ∧
        (y.cond = x.cond ∨ ¬ alerting y.cond → t.cu = s.cu)) ∧
      (x.isolated = false → x.settle = false →
        y.pull = (x.pull || decide pulls) ∧
        (pressed = x.exitPressed → y.exitPressed = x.exitPressed ∧ y.exitCand = none ∧ y.pass = x.pass) ∧
        (pressed ≠ x.exitPressed → exits < s.plan.checkCount d →
          y.exitPressed = x.exitPressed ∧ y.exitCand = some exits ∧ y.pass = x.pass) ∧
        (pressed ≠ x.exitPressed → s.plan.checkCount d ≤ exits →
          y.exitPressed = pressed ∧ y.exitCand = none ∧
          y.pass = if pressed then some (max (s.now + s.plan.passTime d) (x.pass.getD 0)) else x.pass) ∧
        (opened = x.posOpen → y.posOpen = x.posOpen ∧ y.posCand = none) ∧
        (opened ≠ x.posOpen → seen < s.plan.checkCount d → y.posOpen = x.posOpen ∧ y.posCand.map Candidate.count = some seen) ∧
        (opened ≠ x.posOpen → s.plan.checkCount d ≤ seen → y.posOpen = opened ∧ y.posCand = none) ∧
        (marks → y.forced = true ∧ y.forcedCount = (if 255 ≤ x.forcedCount then 255 else x.forcedCount + 1) ∧
          (v.reachable = true → y.cond = .forced)) ∧
        (¬ marks → y.forcedCount = x.forcedCount ∧ (y.forced = true → x.forced = true)) ∧
        (pulls → y.cond = x.cond ∨ ¬ alerting y.cond → Alerted s t d .pull 3) ∧
        (¬ pulls → y.cond = x.cond ∨ ¬ alerting y.cond → t.cu = s.cu) ∧
        (¬ pulls → y.cond = .forced → x.cond ≠ .forced →
          if v.regime = .day ∧ s.plan.forcedByDay d = false then t.cu = s.cu else Alerted s t d .forced forcedLevel))) ∧
  (∀ (s : State) (d : Nat), s.plan.doorPlanned d = true → (s.device (s.plan.doorDevice d)).cond ≠ .ok →
      let t := s.doorLost d
      DoorMoved s t d ∧ t.cu = s.cu ∧ (t.door d).claims = (s.door d).claims ∧ (t.door d).settle = true ∧ (t.door d).Unmarked ∧
        (t.door d).posCand = none ∧ (t.door d).exitCand = none ∧ (t.door d).forcedCount = (s.door d).forcedCount ∧
        (t.door d).isolated = (s.door d).isolated ∧ (t.door d).cond = if (s.door d).isolated then .isolated else .unknown)

/-- PASS DOOR (R76): a later expiry is taken and the door decided again; an expiry that is not later completes KEPT. HOLD DOOR and RELEASE HOLD (R77).
CLEAR PULL (R79): refused while the pull is OPERATED. -/
def Obligations.ClaimOrdersMoveOneClaim : Prop :=
  (∀ (s : State) (n d seconds : Nat), Works s n (.passDoor d seconds) →
      ∃ t, exec .passDoor s = .next t ∧
        let e := s.now + (if seconds = 0 then s.plan.passTime d else seconds)
        (∀ p, (s.door d).pass = some p → e ≤ p → OrderEnds s t n .kept [] ∧ Keeps unitBlocks s t ∧ PortKept s t) ∧
        ((∀ p, (s.door d).pass = some p → p < e) →
          OrderEnds s t n .ok [] ∧ OneDoor s t d ∧
          (t.door d).claims = ((s.door d).pull, (s.door d).keys, (s.door d).evac, (s.door d).lockdown, (s.door d).hold, some e))) ∧
  (∀ (s : State) (n d : Nat),
      (∀ shut, Works s n (.holdDoor d shut) → ∃ t, exec .holdDoor s = .next t ∧
        if (s.door d).hold = some shut then OrderEnds s t n .kept [] ∧ Keeps unitBlocks s t ∧ PortKept s t
        else OrderEnds s t n .ok [] ∧ OneDoor s t d ∧
          (t.door d).claims = ((s.door d).pull, (s.door d).keys, (s.door d).evac, (s.door d).lockdown, some shut, (s.door d).pass)) ∧
      (Works s n (.releaseHold d) → ∃ t, exec .releaseHold s = .next t ∧
        if (s.door d).hold = none then OrderEnds s t n .kept [] ∧ Keeps unitBlocks s t ∧ PortKept s t
        else OrderEnds s t n .ok [] ∧ OneDoor s t d ∧
          (t.door d).claims = ((s.door d).pull, (s.door d).keys, (s.door d).evac, (s.door d).lockdown, none, (s.door d).pass))) ∧
  (∀ (s : State) (n d : Nat), Works s n (.clearPull d) →
      ∃ t, exec .clearPull s = .next t ∧
        if (s.door d).pull = false then OrderEnds s t n .kept [] ∧ Keeps unitBlocks s t ∧ PortKept s t
        else if (s.door d).pullOperated then OrderEnds s t n .refusedState [] ∧ Keeps unitBlocks s t ∧ PortKept s t
        else OrderEnds s t n .ok [] ∧ OneDoor s t d ∧
          (t.door d).claims = (false, (s.door d).keys, (s.door d).evac, (s.door d).lockdown, (s.door d).hold, (s.door d).pass))

/-- LOCKDOWN and END LOCKDOWN (R78): the claims of the planned doors in the area move, FIRE doors passed by, and no other claim does. A door's device is
handed its output where that changes (R57), and no other device record moves but for indicators (R103). -/
def Obligations.LockdownOfAnArea : Prop :=
  ∀ (s : State) (n a : Nat),
    (Works s n (.lockdown a) → ∃ t, exec .lockdown s = .next t ∧ PortKept s t ∧ Keeps [.ps, .za, .rl, .mem, .pending] s t ∧
      DoorOutputs s t ∧
      let takes := fun d => s.plan.doorPlanned d = true ∧ s.plan.doorKind d ≠ some .fire ∧ s.plan.inArea a (s.plan.doorZone d) = true
      (∀ d, isDoor d = true → takes d → (t.door d).lockdown = true ∧
        ((s.door d).lockdown = false → (t.door d).isolated = false → (t.door d).cmdLocked = (t.door d).command (s.doorView d))) ∧
      (∀ d, isDoor d = true → ¬ takes d → t.door d = s.door d) ∧
      (∀ d, (t.door d).claims = ((s.door d).pull, (s.door d).keys, (s.door d).evac, (t.door d).lockdown, (s.door d).hold, (s.door d).pass)) ∧
      ((∃ d, isDoor d = true ∧ takes d ∧ (s.door d).lockdown = false) → OrderEnds s t n .ok []) ∧
      ((∀ d, isDoor d = true → takes d → (s.door d).lockdown = true) → OrderEnds s t n .kept [] ∧ Keeps unitBlocks s t)) ∧
    (Works s n (.endLockdown a) → ∃ t, exec .endLockdown s = .next t ∧ PortKept s t ∧ Keeps [.ps, .za, .rl, .mem, .pending] s t ∧
      DoorOutputs s t ∧
      let inside := fun d => s.plan.doorPlanned d = true ∧ s.plan.inArea a (s.plan.doorZone d) = true
      (∀ d, isDoor d = true → inside d → (t.door d).lockdown = false ∧
        ((s.door d).lockdown = true → (t.door d).isolated = false → (t.door d).cmdLocked = (t.door d).command (s.doorView d))) ∧
      (∀ d, isDoor d = true → ¬ inside d → t.door d = s.door d) ∧
      (∀ d, (t.door d).claims = ((s.door d).pull, (s.door d).keys, (s.door d).evac, (t.door d).lockdown, (s.door d).hold, (s.door d).pass)) ∧
      ((∃ d, isDoor d = true ∧ inside d ∧ (s.door d).lockdown = true) → OrderEnds s t n .ok []) ∧
      ((∀ d, isDoor d = true → inside d → (s.door d).lockdown = false) → OrderEnds s t n .kept [] ∧ Keeps unitBlocks s t))

/-- ISOLATE DOOR and RESTORE DOOR (R80, R81); the latter hands the door's output whether or not it has changed. No valid
plan has a help point name a door's device (validation check 15). -/
def Obligations.IsolateAndRestoreDoor : Prop :=
  ∀ (s : State) (n d : Nat),
    (Works s n (.isolateDoor d) → ∃ t, exec .isolateDoor s = .next t ∧
      if (s.door d).isolated then OrderEnds s t n .kept [] ∧ Keeps unitBlocks s t ∧ PortKept s t
      else OrderEnds s t n .ok [] ∧ OneDoor s t d ∧ (t.door d).cond = .isolated ∧ (t.door d).claims = (s.door d).claims ∧
        (t.door d).forced = false ∧ (t.door d).failClose = false ∧ (t.door d).held = false ∧ (t.door d).jam = .none ∧
        (t.door d).holdStart = none ∧ (t.door d).lockStart = none ∧ (t.door d).closeStart = none ∧
        (t.door d).posCand = none ∧ (t.door d).exitCand = none ∧ (t.door d).forcedCount = (s.door d).forcedCount ∧
        (t.door d).cmdLocked = (s.door d).cmdLocked ∧ (t.door d).holderOn = (s.door d).holderOn ∧ t.lc = s.lc) ∧
    (Works s n (.restoreDoor d) → ∃ t, exec .restoreDoor s = .next t ∧
      if (s.door d).isolated = false then OrderEnds s t n .kept [] ∧ Keeps unitBlocks s t ∧ PortKept s t
      else OrderEnds s t n .ok [] ∧ DoorAlone s t d ∧ DoorHands s t d True ∧ (t.door d).isolated = false ∧
        (t.door d).forcedCount = (s.door d).forcedCount ∧
        (1 ≤ s.plan.doorDevice d → ¬ s.plan.helpNames (s.plan.doorDevice d) →
          (t.device (s.plan.doorDevice d)).handed = some (t.door d).output) ∧
        if (s.device (s.plan.doorDevice d)).cond = .ok then
          let v := (s.device (s.plan.doorDevice d)).value
          (t.door d).settle = false ∧ (t.door d).posOpen = v.getLsbD 0 ∧ (t.door d).exitPressed = v.getLsbD 1 ∧
            (t.door d).lockEngaged = v.getLsbD 2 ∧ (t.door d).pullOperated = v.getLsbD 3 ∧
            (t.door d).pull = ((s.door d).pull || v.getLsbD 3) ∧ (t.door d).pass = (s.door d).pass
        else (t.door d).settle = true ∧ (t.door d).cond = .unknown ∧ (t.door d).claims = (s.door d).claims)

/-- The four timers of a door: PASS (R62), hold (R68), lock sense (R69) and close (R70), with the alerts that follow (R71); that a mark set without a
change of the condition sends no alert is log entry 17 (DEDUCED). DU carries out the requests of RL in the order they were sent (R63, R115); a STRONG
door is passed by (R61). -/
def Obligations.DoorTimersAndRequestsAct : Prop :=
  (∀ (s : State) (d : Nat), s.plan.doorPlanned d = true →
      let v := s.doorView d
      (∀ e, (s.door d).pass = some e → e ≤ s.now →
        ∃ t, exec (.passExpiry d) s = .next t ∧ Keeps [.ou] s t ∧ OneDoor s t d ∧
          (t.door d).claims = ((s.door d).pull, (s.door d).keys, (s.door d).evac, (s.door d).lockdown, (s.door d).hold, none)) ∧
      (∀ b, (s.door d).holdStart = some b → b + s.plan.holdLimit d ≤ s.now → (s.door d).holdRuns v = true →
        ∃ t, exec (.doorHoldTimerExpiry d) s = .next t ∧ Keeps [.ou] s t ∧ OneDoor s t d ∧ (t.door d).held = true ∧
          (t.door d).claims = (s.door d).claims ∧
          ((s.door d).cond ≠ .held → (t.door d).cond = .held → Alerted s t d .held (if v.regime = .day then 2 else 3))) ∧
      (∀ k b, (s.door d).lockStart = some (k, b) → b + 3 ≤ s.now → k ≠ .none → (s.door d).disagreement v = k →
        ∃ t, exec (.lockSenseTimerExpiry d) s = .next t ∧ Keeps [.ou] s t ∧ OneDoor s t d ∧ (t.door d).jam = k ∧
          (k = .free → (t.door d).forced = false) ∧ (t.door d).claims = (s.door d).claims ∧
          ((s.door d).cond ≠ .jammedShut → (t.door d).cond = .jammedShut →
            Alerted s t d .jammedShut (if (s.door d).evac then 3 else 2))) ∧
      (∀ b, (s.door d).closeStart = some b → b + s.plan.closeTime d ≤ s.now → (s.door d).closeRuns v = true →
        ∃ t, exec (.closeTimerExpiry d) s = .next t ∧ Keeps [.ou] s t ∧ OneDoor s t d ∧ (t.door d).failClose = true ∧
          (t.door d).claims = (s.door d).claims ∧
          ((s.door d).cond ≠ .failClose → (t.door d).cond = .failClose → Alerted s t d .failClose 3))) ∧
  (∀ (s : State) (d : Nat) (add : Bool) (rest : List (Nat × Bool)), s.mail.rlOut = (d, add) :: rest →
      ∃ t, exec .evacClaimRequest s = .next t ∧ t.mail.rlOut = rest ∧ Keeps [.ou] s t ∧
        if s.plan.doorPlanned d = true then
          OneDoor s t d ∧
          (t.door d).claims = ((s.door d).pull, (s.door d).keys,
            (if add = true ∧ s.plan.doorKind d = some .strong then (s.door d).evac else add),
            (s.door d).lockdown, (s.door d).hold, (s.door d).pass)
        else Keeps [.ps, .lc, .za, .du, .cu, .rl, .mem, .pending] s t ∧ PortKept s t)

/-- A change at a key's pin moves no accepted state (R73). The end of a key's filter (R21, R73 to R75): the accepted state follows the pin; the set
becoming held evacuates the site and frees every planned door that is not STRONG while a plan is active, an investigation that runs ending first (R16,
R17), the doors and sounders being handed their outputs (R25, R57) and ZA telling of each effective phase that changes, those round the trigger zone first
(R12), and asks for the release broadcast while none is; the set ceasing clears the mark or the request.
That the phases of each group of areas that moves together are told once, in ascending zone number, is log entry 14 (DESIGN CHOICE). -/
def Obligations.ReleaseKeysAct : Prop :=
  (∀ (s : State) (k : Nat) (operated : Bool), isKey k = true →
      ∃ t, exec (.keyInputChange k operated) s = .next t ∧ t.du.keyInput.get k = operated ∧
        (∀ j, j ≠ k → t.du.keyInput.get j = s.du.keyInput.get j) ∧ t.du = { s.du with keyInput := t.du.keyInput } ∧ PortKept s t ∧
        Keeps [.ou, .ps, .lc, .za, .cu, .rl, .mail, .mem, .pending] s t) ∧
  (∀ (s : State) (k : Nat), isKey k = true → s.du.keyInput.get k ≠ s.du.keyAccepted.get k →
      ∃ t, exec (.keyFilterExpiry k) s = .next t ∧ t.du.keyAccepted.get k = s.du.keyInput.get k ∧
        (∀ j, j ≠ k → t.du.keyAccepted.get j = s.du.keyAccepted.get j) ∧ t.du.keyInput = s.du.keyInput ∧ PortKept s t ∧
        Keeps [.ou, .ps, .rl, .mem, .pending] s t ∧
        let held := ∀ j, isKey j = true → s.inKeySet j = true → t.du.keyAccepted.get j = true
        (held → t.du.setHeld = true) ∧ (¬ held → t.du.setHeld = false) ∧
        ((held ↔ s.du.setHeld = true) → Keeps [.lc, .za, .cu, .mail] s t ∧ t.du = { s.du with keyAccepted := t.du.keyAccepted }) ∧
        (held → s.du.setHeld = false → s.ps.active ≠ none →
          t.za.keysHeld = true ∧ t.za.seq = .general ∧ t.za.silenced = false ∧ t.za.siteEnd = none ∧
          (s.za.keysHeld = false → Noticed 1 t) ∧ t.mail.rlOut = s.mail.rlOut ∧
          (∀ z, isZone z = true → (t.zone z).phase = s.plan.phaseUnder t.area z) ∧
          (∀ a, s.plan.areaPlanned a = true → t.area a = { s.area a with phase := .evacuate, phaseEnd := none }) ∧
          (s.za.seq = .calm ∨ s.za.seq = .general →
            ZaTells s t (phaseChanges s t) ∧
            (∀ a, isArea a = true → s.plan.areaPlanned a = false → t.area a = s.area a) ∧ ∀ w, (t.zone w).cause = (s.zone w).cause) ∧
          (s.za.seq = .awaitAck ∨ s.za.seq = .searching → ∀ z ∈ s.za.first.head?, isZone z = true → CausesAfterSearch s t z none ∧
            ZaTells s t (phaseChangesRound s t z) ∧
            ∀ a, isArea a = true → s.plan.areaPlanned a = false → t.area a = s.roundEvacuate z a) ∧
          OutputsMoved s t (fun i => s.plan.deviceKind i = some .sounder ∨ s.plan.doorNames i ∨ s.plan.helpNames i) ∧
          DoorsHanded s t ∧ SoundersHanded s t ∧ HelpsHanded s t ∧
          (∀ d, isDoor d = true → s.plan.doorPlanned d = true → s.plan.doorKind d ≠ some .strong → (t.door d).keys = true) ∧
          (∀ d, isDoor d = true → s.plan.doorKind d = some .strong → (t.door d).keys = (s.door d).keys)) ∧
        (¬ held → s.du.setHeld = true → s.ps.active ≠ none →
          t.za = { s.za with keysHeld := false } ∧ t.du.doors = s.du.doors ∧ Keeps [.lc, .cu, .mail] s t) ∧
        (s.ps.active = none → (held ↔ s.du.setHeld = false) →
          Keeps [.za, .cu, .mail] s t ∧ t.du.broadcast = t.du.setHeld ∧ t.du.doors = s.du.doors ∧ t.lc.devices = s.lc.devices ∧
          ∀ l, isLoop l = true → t.loop l = { s.loop l with broadcastAt := if t.du.setHeld then some s.now else none }))

/-- Every planned door shows the condition, the lock command and the holder output that its record gives, after every step (R61, R64, R65, R80). -/
def Obligations.DoorsStayDecided : Prop :=
  ∀ s t : State, MemoryOk s → PlanOk s → DoorsOk s → step s = .next t → DoorsOk t

/-! ### Visitor calls -/

/-- A press or alert that CU takes (R88, R89, R90): a repeat of its source's call, a new call in a free entry, or a waiting mark; no call is lost. A
HELP report as a whole: the two controls (R87), the level and reason of its press (R88), the cancel key (R98, R91), and the indicators handed where they
change (R103). -/
def Obligations.PressIsRepeatedAdmittedOrMarked : Prop :=
  (∀ (s : State) (q : Press), CallsOk s → 1 ≤ q.source → q.source ≤ 144 →
      let cu := s.cu.takePress s.now q
      (∀ c ∈ s.cu.calls, c.source = q.source →
        cu.sources = s.cu.sources ∧ cu.serial = s.cu.serial ∧ cu.calls.length = s.cu.calls.length ∧
        (∀ b ∈ s.cu.calls, b.source ≠ q.source → b ∈ cu.calls) ∧
        ∃ c' ∈ cu.calls, c'.source = c.source ∧ c'.serial = c.serial ∧ c'.entry = c.entry ∧ c'.state = c.state ∧
          c'.admitted = c.admitted ∧ c'.repeats = (if 255 ≤ c.repeats then 255 else c.repeats + 1) ∧ c'.level = max c.level q.level ∧
          c'.lastRaise = (if c.level < q.level then s.now else c.lastRaise) ∧ c'.aged = (if c.level < q.level then false else c.aged) ∧
          c'.reason = (if c.level < q.level ∨ q.reason = .pull then q.reason else c.reason) ∧
          c'.inAlarm = (c.inAlarm || q.inAlarm) ∧ c'.stranded = (c.stranded || q.stranded)) ∧
      ((∀ c ∈ s.cu.calls, c.source ≠ q.source) → s.cu.calls.length < 32 →
        cu.sources = s.cu.sources ∧ ∃ c, cu.calls = s.cu.calls ++ [c] ∧ c.source = q.source ∧ c.zone = q.zone ∧ c.level = q.level ∧
          c.reason = q.reason ∧ c.state = .waiting ∧ c.admitted = s.now ∧ c.lastRaise = s.now ∧ c.repeats = 0 ∧ c.aged = false ∧
          c.inAlarm = q.inAlarm ∧ c.stranded = q.stranded ∧ c.serial = cu.serial ∧ 1 ≤ c.serial ∧ c.serial ≤ 65535 ∧
          (∀ b ∈ s.cu.calls, b.serial ≠ c.serial ∧ b.entry ≠ c.entry) ∧ c.entry < 32 ∧
          ∀ e, e < c.entry → ∃ b ∈ s.cu.calls, b.entry = e) ∧
      ((∀ c ∈ s.cu.calls, c.source ≠ q.source) → s.cu.calls.length = 32 →
        cu.calls = s.cu.calls ∧ cu.serial = s.cu.serial ∧ (∀ n, n ≠ q.source → cu.sources.get n = s.cu.sources.get n) ∧
        (cu.sources.get q.source).base = (s.cu.sources.get q.source).base ∧
        (cu.sources.get q.source).pending = some (match (s.cu.sources.get q.source).pending with
          | none => (q.level, q.reason)
          | some (l, r) => (max l q.level, if l < q.level ∨ q.reason = .pull then q.reason else r)))) ∧
  (∀ (s : State) (h : Nat) (value : Half), CallsOk s → 1 ≤ h → h ≤ 80 →
      let t := s.helpReport h value
      let x := s.cu.helps.get h
      let pressed := value.getLsbD 0
      let operated := value.getLsbD 1
      let z := s.plan.helpZone h
      let day := s.regimeOf z = .day
      let q : Press :=
        { source := h, zone := z
          level := if s.cu.zoneAlarm.get z = true ∨ s.cu.zoneStranded.get z = true then 3 else if day then (s.cu.sources.get h).base else 3
          reason := if day then .press else .nightPress, inAlarm := s.cu.zoneAlarm.get z, stranded := s.cu.zoneStranded.get z }
      let cancels := operated = true ∧ x.cancel = false ∧ x.settle = false
      let presses := pressed = true ∧ (x.settle = true ∨ x.button = false)
      let calling := ∃ c ∈ s.cu.calls, c.source = h
      let marked := ∃ n, (s.cu.sources.get n).pending.isSome = true
      Keeps [.xp, .ou, .ps, .za, .du, .rl, .mail, .mem, .pending] s t ∧ CallOutputs s t ∧
      (t.cu.helps.get h).button = pressed ∧ (t.cu.helps.get h).cancel = operated ∧ (t.cu.helps.get h).settle = false ∧
      (∀ k, k ≠ h → { t.cu.helps.get k with indicator := none } = { s.cu.helps.get k with indicator := none }) ∧
      (¬ cancels → ¬ presses → { t.cu with helps := s.cu.helps } = s.cu) ∧
      (¬ cancels → presses → { t.cu with helps := s.cu.helps } = (s.cu.takePress s.now q).decideOffer s.plan.nested) ∧
      (cancels →
        (∀ b ∈ s.cu.calls, b.source ≠ h → ∃ c ∈ t.cu.calls, { c with state := b.state } = b ∧ (c.state = .attended ↔ b.state = .attended)) ∧
        (¬ presses → (∀ c ∈ t.cu.calls, c.source ≠ h) ∧ (t.cu.sources.get h).pending = none) ∧
        (calling → marked → t.cu.calls.length = 32) ∧
        (calling → ¬ marked → presses → t.cu.calls.length = s.cu.calls.length) ∧
        (calling → ¬ marked → ¬ presses → t.cu.calls.length + 1 = s.cu.calls.length) ∧
        (¬ calling → ¬ presses → t.cu.calls = s.cu.calls ∧ t.cu.serial = s.cu.serial ∧
          ∀ n, n ≠ h → t.cu.sources.get n = s.cu.sources.get n) ∧
        (presses →
          (∃ c ∈ t.cu.calls, c.source = h ∧ c.zone = z ∧ c.level = q.level ∧ c.reason = q.reason ∧ c.inAlarm = q.inAlarm ∧
            c.stranded = q.stranded ∧ c.admitted = s.now ∧ c.lastRaise = s.now ∧ c.repeats = 0 ∧ c.aged = false ∧ c.state ≠ .attended) ∨
          (t.cu.calls.length = 32 ∧ (∀ c ∈ t.cu.calls, c.source ≠ h) ∧ (t.cu.sources.get h).pending = some (q.level, q.reason)))))

/-- ATTEND CALL (R96): a serial that no call carries completes NO_SUCH; the call is ATTENDED and the offer decided again, and nothing else of any call
moves. CLOSE CALL (R91, R97): the call leaves the list, and a source that waits for its entry is admitted in the same event. A help point's device is
handed its indicator where that changes, and no other device moves (R103). -/
def Obligations.CallOrdersAttendAndClose : Prop :=
  (∀ (s : State) (n serial : Nat), CallsOk s → Works s n (.attendCall serial) →
      ∃ t, exec .attendCall s = .next t ∧ PortKept s t ∧ Keeps [.ps, .za, .du, .rl, .mail, .mem, .pending] s t ∧ CallOutputs s t ∧
        ((∀ c ∈ s.cu.calls, c.serial ≠ serial) → OrderEnds s t n .noSuch [] ∧ Keeps [.lc, .cu] s t) ∧
        (∀ c ∈ s.cu.calls, c.serial = serial → c.state = .attended → OrderEnds s t n .kept [] ∧ Keeps [.lc, .cu] s t) ∧
        (∀ c ∈ s.cu.calls, c.serial = serial → c.state ≠ .attended →
          OrderEnds s t n .ok [] ∧ Noticed 3 t ∧ { c with state := .attended } ∈ t.cu.calls ∧
          t.cu.calls.map Call.unstated = s.cu.calls.map Call.unstated ∧
          t.cu.calls.map Call.attended = s.cu.calls.map (fun b => b.attended || decide (b.serial = serial)) ∧
          t.cu.decideOffer s.plan.nested = t.cu ∧ t.cu.sources = s.cu.sources ∧ t.cu.serial = s.cu.serial)) ∧
  (∀ (s : State) (n serial : Nat), CallsOk s → Works s n (.closeCall serial) →
      ∃ t, exec .closeCall s = .next t ∧ PortKept s t ∧ Keeps [.ps, .za, .du, .rl, .mail, .mem, .pending] s t ∧ CallOutputs s t ∧
        ((∀ c ∈ s.cu.calls, c.serial ≠ serial) → OrderEnds s t n .noSuch [] ∧ Keeps [.lc, .cu] s t) ∧
        (∀ c ∈ s.cu.calls, c.serial = serial →
          let others := s.cu.calls.filter (fun b => b.serial ≠ serial)
          OrderEnds s t n .ok [] ∧ Noticed 3 t ∧ t.cu.decideOffer s.plan.nested = t.cu ∧ (∀ b ∈ t.cu.calls, b.source ≠ c.source) ∧
          ((∀ k, (s.cu.sources.get k).pending = none) →
            t.cu.calls.map Call.unstated = others.map Call.unstated ∧ t.cu.calls.map Call.attended = others.map Call.attended ∧
            (∀ b ∈ t.cu.calls, b.serial ≠ serial) ∧ t.cu.sources = s.cu.sources ∧ t.cu.serial = s.cu.serial) ∧
          ∀ k l r, (s.cu.sources.get k).pending = some (l, r) →
            (∀ j m p, (s.cu.sources.get j).pending = some (m, p) → m < l ∨ (m = l ∧ k ≤ j)) →
            (∃ b ∈ t.cu.calls, b.source = k ∧ b.level = l ∧ b.reason = r ∧ b.admitted = s.now ∧ b.lastRaise = s.now ∧ b.repeats = 0 ∧
              b.zone = s.plan.sourceZone k ∧ b.entry = c.entry ∧ b.attended = false ∧ b.serial = t.cu.serial ∧
              (∀ d ∈ others, d.serial ≠ b.serial) ∧
              t.cu.calls.map Call.unstated = others.map Call.unstated ++ [b.unstated]) ∧
            t.cu.calls.map Call.attended = others.map Call.attended ++ [false] ∧
            (t.cu.sources.get k).pending = none ∧ (t.cu.sources.get k).base = (s.cu.sources.get k).base ∧
            ∀ j, j ≠ k → t.cu.sources.get j = s.cu.sources.get j))

/-- SET CALL LEVEL (R99): the base level, and a lower call or pending level of the source, rise; nothing is lowered. A call that is not ATTENDED and
lies below level 3 ages at its age time (R100). The indicators are handed where they change, and no other device moves (R103). -/
def Obligations.CallLevelsRise : Prop :=
  (∀ (s : State) (n source level : Nat), CallsOk s → Works s n (.setCallLevel source level) →
      ∃ t, exec .setCallLevel s = .next t ∧ PortKept s t ∧ Keeps [.ps, .za, .du, .rl, .mail, .mem, .pending] s t ∧ CallOutputs s t ∧
        (level = 0 → OrderEnds s t n .kept [] ∧ Keeps [.lc, .cu] s t) ∧
        (1 ≤ level →
          (t.cu.sources.get source).base = level ∧
          (t.cu.sources.get source).pending = (s.cu.sources.get source).pending.map (fun q => (max q.1 level, q.2)) ∧
          (∀ k, k ≠ source → t.cu.sources.get k = s.cu.sources.get k) ∧ t.cu.serial = s.cu.serial ∧
          t.cu.calls.map Call.unstated =
            s.cu.calls.map (fun b =>
              if b.source = source ∧ b.level < level then { b.unstated with level := level, lastRaise := s.now, aged := false }
              else b.unstated) ∧
          t.cu.calls.map Call.attended = s.cu.calls.map Call.attended ∧ t.cu.decideOffer s.plan.nested = t.cu ∧
          ((s.cu.sources.get source).base = level → (∀ q ∈ (s.cu.sources.get source).pending, level ≤ q.1) →
            (∀ b ∈ s.cu.calls, b.source = source → level ≤ b.level) → OrderEnds s t n .kept [] ∧ Keeps [.lc, .cu] s t) ∧
          ((s.cu.sources.get source).base ≠ level ∨ (∃ q ∈ (s.cu.sources.get source).pending, q.1 < level) ∨
            (∃ b ∈ s.cu.calls, b.source = source ∧ b.level < level) → OrderEnds s t n .ok []))) ∧
  (∀ (s : State) (c : Call), CallsOk s → c ∈ s.cu.calls → c.state ≠ .attended → c.level < 3 → c.lastRaise + s.plan.ageTime ≤ s.now →
      ∃ t, exec (.callAgeing c.entry) s = .next t ∧ PortKept s t ∧ Noticed 3 t ∧
        Keeps [.ou, .ps, .za, .du, .rl, .mail, .mem, .pending] s t ∧ CallOutputs s t ∧
        t.cu.sources = s.cu.sources ∧ t.cu.serial = s.cu.serial ∧
        t.cu.calls.map Call.unstated =
          s.cu.calls.map (fun b => if b.entry = c.entry then { b.unstated with level := b.level + 1, lastRaise := s.now, aged := true }
            else b.unstated) ∧
        t.cu.calls.map Call.attended = s.cu.calls.map Call.attended ∧ t.cu.decideOffer s.plan.nested = t.cu)

/-- The offer (R93, R94, R95): no call is offered while none is eligible, and otherwise the eligible call of highest level, admitted earliest, alone. The
attend level is that of the highest ATTENDED call, 0 with none (04, 'The offer'). -/
def Obligations.OfferIsTheBestEligibleCall : Prop :=
  ∀ (s : State) (nested : Bool), (s.cu.calls.map Call.entry).Nodup →
    let cu := s.cu.decideOffer nested
    let level := s.cu.attendLevel
    let eligible := fun c : Call => c ∈ s.cu.calls ∧ c.state ≠ .attended ∧
      (if nested then level < c.level
        else (∀ b ∈ s.cu.calls, b.state ≠ .attended) ∨ (level < c.level ∧ (c.reason = .pull ∨ c.stranded = true)))
    (∀ c ∈ s.cu.calls, c.state = .attended → c ∈ cu.calls ∧ c.level ≤ level) ∧
    ((∀ c ∈ s.cu.calls, c.state ≠ .attended) → level = 0) ∧
    ((∃ c ∈ s.cu.calls, c.state = .attended) → ∃ c ∈ s.cu.calls, c.state = .attended ∧ c.level = level) ∧
    cu.calls.map (fun b => { b with state := CallState.waiting }) = s.cu.calls.map (fun b => { b with state := CallState.waiting }) ∧
    ((∀ c, ¬ eligible c) → ∀ c ∈ cu.calls, c.state ≠ .offered) ∧
    ∀ (before after : List Call) (c : Call), s.cu.calls = before ++ c :: after → eligible c →
      (∀ b ∈ before, eligible b → b.level < c.level) → (∀ b ∈ after, eligible b → b.level ≤ c.level) →
      ∀ b ∈ cu.calls, b.state = .offered ↔ b.entry = c.entry

/-- The call list stays within its bounds, the offer and the indicators as the rules decide them, after every step (R85, R95, R103). -/
def Obligations.CallListStaysInBounds : Prop :=
  ∀ s t : State, MemoryOk s → CallsOk s → step s = .next t → CallsOk t

/-! ### Routes, signs and emergency lighting -/

/-- BAR ROUTE (R109, R111): the route becomes unusable with cause BARRED, and every zone that had selected it moves at once to the first other usable
route of its list, or to REFUGE. UNBAR ROUTE (R110): a zone in REFUGE takes the route at once when it has become usable, and a zone on a usable route
keeps its selection and starts the return hold toward the route when its list prefers it (R112). The expiry of a zone's return hold (R112): the zone
takes its candidate, and marks, claims, signs and lamps follow (R113). The devices of signs and circuits hold their outputs (R117, R121), and but for
indicators no other device moves. -/
def Obligations.RouteOrdersAndTheReturnHold : Prop :=
  (∀ (s : State) (n r : Nat), RoutesOk s → Works s n (.barRoute r) →
      ∃ t, exec .barRoute s = .next t ∧ PortKept s t ∧ Keeps [.ps, .za, .du, .mem, .pending] s t ∧ RoutesOk t ∧
        if (s.rl.routes.get r).bar then OrderEnds s t n .kept [] ∧ Keeps unitBlocks s t
        else
          OrderEnds s t n .ok [] ∧ RouteOutputs s t ∧ t.rl.routes.get r = { bar := true, usable := false, cause := .barred } ∧
          (∀ k, k ≠ r → t.rl.routes.get k = s.rl.routes.get k) ∧ ((s.rl.routes.get r).usable = true → Noticed 4 t) ∧
          (∀ z, s.plan.zonePlanned z = true → (s.rl.zones.get z).selection = .route r →
            (t.rl.zones.get z).selection =
              match (s.plan.preferences z).find? (fun k => k ≠ r && (s.rl.routes.get k).usable) with
              | some f => .route f
              | none => .refuge) ∧
          (∀ z, (s.rl.zones.get z).selection ≠ .route r → (t.rl.zones.get z).selection = (s.rl.zones.get z).selection) ∧
          t.mail.rlOut = s.mail.rlOut ++ claimRequests s.rl.claims t.rl.claims ∧ t.mail.zaOut = s.mail.zaOut ∧ t.mail.duOut = s.mail.duOut) ∧
  (∀ (s : State) (n r : Nat), RoutesOk s → Works s n (.unbarRoute r) →
      ∃ t, exec .unbarRoute s = .next t ∧ PortKept s t ∧ Keeps [.ps, .za, .du, .mem, .pending] s t ∧ RoutesOk t ∧
        if (s.rl.routes.get r).bar = false then OrderEnds s t n .kept [] ∧ Keeps unitBlocks s t
        else
          OrderEnds s t n .ok [] ∧ RouteOutputs s t ∧ (t.rl.routes.get r).bar = false ∧ (∀ k, k ≠ r → t.rl.routes.get k = s.rl.routes.get k) ∧
          (∀ z, s.plan.zonePlanned z = true → (s.rl.zones.get z).selection = .refuge → r ∈ s.plan.preferences z →
            (t.rl.routes.get r).usable = true → (t.rl.zones.get z).selection = .route r) ∧
          (∀ z k, s.plan.zonePlanned z = true → (s.rl.zones.get z).selection = .route k → (t.rl.zones.get z).selection = .route k) ∧
          (∀ z k, s.plan.zonePlanned z = true → (s.rl.zones.get z).selection = .route k → r ≠ k →
            t.rl.firstUsable (s.plan.preferences z) = some r →
            (t.rl.zones.get z).candidate = some r ∧ (t.rl.zones.get z).holdEnd = some (s.now + s.plan.returnHold))) ∧
  (∀ (s : State) (z f e : Nat), RoutesOk s → isZone z = true → (s.rl.zones.get z).candidate = some f →
      (s.rl.zones.get z).holdEnd = some e → e ≤ s.now →
      ∃ t, exec (.returnHoldExpiry z) s = .next t ∧ PortKept s t ∧ Keeps [.ou, .ps, .za, .du, .mem, .pending] s t ∧ RoutesOk t ∧
        RouteOutputs s t ∧ (t.rl.zones.get z).selection = .route f ∧ (t.rl.zones.get z).candidate = none ∧ (t.rl.zones.get z).holdEnd = none ∧
        (∀ y, y ≠ z → t.rl.zones.get y = s.rl.zones.get y) ∧ t.rl.routes = s.rl.routes ∧ t.rl.circuits = s.rl.circuits ∧
        t.mail.rlOut = s.mail.rlOut ++ claimRequests s.rl.claims t.rl.claims)

/-- RL and CU take ZA's message of a zone entering or leaving ALARM (R101, R108, R113, R127): the zone's calls take level 3 and IN_ALARM, a running
test is aborted, and every record of RL follows; that both take it in one step is log entry 12 (DEDUCED). RL takes ZA's message of a change of a
zone's effective phase (R113, R114, R127): leaving NONE aborts a running test; DU stays as it was, because it has decided in ZA's step already, log
entry 13 (DEDUCED). RL and ZA take DU's message of a door's new condition (R108, R113, R135): a closing area of which the last PUBLIC or STAFF door
has become SECURE goes to NIGHT. After each the devices of signs and circuits hold their outputs (R117, R121), and no device moves but those that signs,
circuits, calls and, where an area has closed, doors and sounders are handed outputs for. No other area's regime or closing timer moves, and an area that
closes ends the investigation of a trigger zone of which it is the innermost (R16, R134), the effective phases that change being told (R12) once each in
ascending zone number, which is log entry 14 (DESIGN CHOICE). -/
def Obligations.MessagesBetweenUnitsAreTaken : Prop :=
  (∀ (s : State) (z : Nat) (entered : Bool) (rest : List ZaMessage), RoutesOk s → OrdersOk s → isZone z = true →
      s.mail.zaOut = .alarm z entered :: rest →
      ∃ t, exec .zoneAlarmMessage s = .next t ∧ PortKept s t ∧ Keeps [.za, .du, .mem, .pending] s t ∧ RoutesOk t ∧ RouteOutputs s t ∧
        t.mail.zaOut = rest ∧ (t.rl.zones.get z).alarm = entered ∧ t.cu.zoneAlarm.get z = entered ∧
        (∀ y, y ≠ z → (t.rl.zones.get y).alarm = (s.rl.zones.get y).alarm ∧ t.cu.zoneAlarm.get y = s.cu.zoneAlarm.get y) ∧
        (entered = true → ∀ c ∈ t.cu.calls, c.zone = z → c.level = 3 ∧ c.inAlarm = true) ∧
        t.cu.calls.length = s.cu.calls.length ∧
        (∀ q, s.rl.test = some q → entered = true → TestEnds s t q .aborted .aborted [0, q.failMask]) ∧
        (s.rl.test = none ∨ entered = false → Keeps [.ou, .ps] s t ∧ t.rl.test = s.rl.test ∧ t.rl.circuits = s.rl.circuits)) ∧
  (∀ (s : State) (z : Nat) (phase : Phase) (rest : List ZaMessage), RoutesOk s → OrdersOk s → isZone z = true →
      s.mail.zaOut = .phase z phase :: rest →
      ∃ t, exec .effectivePhaseMessage s = .next t ∧ PortKept s t ∧ Keeps [.za, .du, .mem, .pending] s t ∧ RoutesOk t ∧ RouteOutputs s t ∧
        t.mail.zaOut = rest ∧ (t.rl.zones.get z).phase = phase ∧ t.rl.routes = s.rl.routes ∧
        (∀ y, (t.rl.zones.get y).selection = (s.rl.zones.get y).selection) ∧
        (∀ y, y ≠ z → t.rl.zones.get y = s.rl.zones.get y) ∧
        let leaves := (s.rl.zones.get z).phase = .none ∧ phase ≠ .none
        (∀ q, s.rl.test = some q → leaves → TestEnds s t q .aborted .aborted [0, q.failMask]) ∧
        (s.rl.test = none ∨ ¬ leaves → Keeps [.ou, .ps] s t ∧ t.rl.test = s.rl.test ∧ t.rl.circuits = s.rl.circuits)) ∧
  (∀ (s : State) (d : Nat) (c : DoorCond) (rest : List (Nat × DoorCond)), RoutesOk s → isDoor d = true →
      s.mail.duOut = (d, c) :: rest →
      ∃ t, exec .doorConditionMessage s = .next t ∧ PortKept s t ∧ Keeps [.ou, .ps, .mem, .pending] s t ∧ RoutesOk t ∧
        t.rl.doorCond.get d = c ∧ (∀ e, e ≠ d → t.rl.doorCond.get e = s.rl.doorCond.get e) ∧
        (s.plan.publicOrStaff d = true → t.za.doorCond.get d = c) ∧
        (s.plan.publicOrStaff d = false → Keeps [.za, .du] s t ∧ t.mail.duOut = rest ∧ RouteOutputs s t) ∧
        OutputsMoved s t (fun i => s.plan.namedBeside i 0 0 0 0) ∧ SignsHanded s t ∧ LampsHanded s t ∧ DoorsHanded s t ∧ HelpsHanded s t ∧
        (∀ e, e ≠ d → t.za.doorCond.get e = s.za.doorCond.get e) ∧
        let closes := fun a => s.plan.areaPlanned a = true ∧ (s.area a).regime = .closing ∧ s.plan.publicOrStaff d = true ∧
          s.plan.inArea a (s.plan.doorZone d) = true ∧ t.closingHolds a = true
        (∀ a, isArea a = true → closes a → (t.area a).regime = .night ∧ (t.area a).closingEnd = none) ∧
        (∀ a, isArea a = true → ¬ closes a → (t.area a).regime = (s.area a).regime ∧ (t.area a).closingEnd = (s.area a).closingEnd) ∧
        NightEndsSearch s t closes ∧
        (t.za.seq ≠ s.za.seq →
          SoundersHold s t (fun i => s.plan.doorNames i ∨ s.plan.helpNames i ∨ s.plan.signNames i ∨ s.plan.lampNames i)))

/-- TEST LIGHTS (R122, R123): the three checks in their order; an accepted test is held with its end time, its circuits enter it, lose their battery
periods and are handed the output TEST. -/
def Obligations.TestLightsChecksThenStarts : Prop :=
  ∀ (s : State) (n : Nat) (duration : Bool) (set : Word) (hours : Nat), Works s n (.testLights duration set hours) →
    ∃ t, exec .testLights s = .next t ∧ PortKept s t ∧ Keeps [.ps, .za, .du, .cu, .mail, .mem, .pending] s t ∧
      t.lc.loops = s.lc.loops ∧
      let inSet := fun c => isCircuit c = true ∧ set.getLsbD (c - 1) = true
      let busy := s.rl.test ≠ none ∨ ∃ c, inSet c ∧ (s.rl.circuits.get c).state ≠ .normal
      let uncovered := duration = true ∧ ∃ z, isZone z = true ∧
        (∃ c, s.plan.lampPlanned c = true ∧ z ∈ s.plan.servedZones c) ∧
        ∀ c, s.plan.lampPlanned c = true → z ∈ s.plan.servedZones c →
          inSet c ∨ (s.rl.circuits.get c).state = .durationTest ∨ (s.rl.circuits.get c).state = .recharge
      (busy → OrderEnds s t n .refusedState [] ∧ Keeps unitBlocks s t) ∧
      (¬ busy → s.za.seq ≠ .calm → OrderEnds s t n .refusedSite [] ∧ Keeps unitBlocks s t) ∧
      (¬ busy → s.za.seq = .calm → uncovered → OrderEnds s t n .refusedCover [] ∧ Keeps unitBlocks s t) ∧
      (¬ busy → s.za.seq = .calm → ¬ uncovered →
        OrderHeld s t n .lights ∧ Noticed 4 t ∧
        (∃ q, t.rl.test = some q ∧ q.duration = duration ∧ q.start = s.now ∧ q.passMask = 0 ∧ q.failMask = 0 ∧
          q.ending = s.now + (if duration then 3600 * hours else 60) ∧ ∀ c, c ∈ q.circuits ↔ inSet c) ∧
        (∀ c, inSet c → t.rl.circuits.get c =
          { s.rl.circuits.get c with
            period := none
            state := if (s.device (s.plan.lampDevice c)).cond = .ok then (if duration then .durationTest else .functionTest)
              else .unknown }) ∧
        (∀ c, isCircuit c = true → ¬ inSet c → t.rl.circuits.get c = s.rl.circuits.get c) ∧
        t.rl = { s.rl with test := t.rl.test, circuits := t.rl.circuits } ∧
        (∀ c, inSet c → 1 ≤ s.plan.lampDevice c →
          (∀ k, isCircuit k = true → k ≠ c → s.plan.lampPlanned k = true → s.plan.lampDevice k ≠ s.plan.lampDevice c) →
          t.device (s.plan.lampDevice c) =
            { s.device (s.plan.lampDevice c) with
              handed := some 2
              output := if (s.device (s.plan.lampDevice c)).cond = .isolated then (s.device (s.plan.lampDevice c)).output else some 2 }) ∧
        ∀ i, (∀ k, isCircuit k = true → s.plan.lampPlanned k = true → s.plan.lampDevice k ≠ i) → t.device i = s.device i)

/-- STOP TEST (R128), and the end time of a test (R126); the circuits' devices hold their outputs (R121). -/
def Obligations.TestsEndByOrderOrByTime : Prop :=
  ∀ (s : State), OrdersOk s → LightsOk s →
    (∀ n, Works s n .stopTest →
      ∃ t, exec .stopTest s = .next t ∧ PortKept s t ∧ Keeps [.za, .du, .cu, .mail, .mem, .pending] s t ∧ t.lc.loops = s.lc.loops ∧
        (s.rl.test = none → OrderEnds s t n .kept [] ∧ Keeps unitBlocks s t) ∧
        ∀ q, s.rl.test = some q → LampOutputs s t ∧ (s.slot n).CompletedAs (t.slot n) .ok [] ∧ t.ou.working = none ∧ t.ou.queue = s.ou.queue ∧
          TestEnds s t q .aborted .cancelled [0, q.failMask]) ∧
    (∀ q, s.rl.test = some q → q.ending ≤ s.now →
      ∃ t, exec .testEndTime s = .next t ∧ PortKept s t ∧ Keeps [.za, .du, .cu, .mail, .mem, .pending] s t ∧ LampOutputs s t ∧
        t.ou.working = s.ou.working ∧ t.ou.queue = s.ou.queue ∧
        ∃ pass : Word, TestEnds s t q .pass .ok [pass, q.failMask] ∧
          ∀ c, isCircuit c = true → (pass.getLsbD (c - 1) = true ↔ q.passMask.getLsbD (c - 1) = true ∨ c ∈ q.circuits))

/-- The end of a circuit's recharge lockout (R119, R120). A battery period begins when mains goes ABSENT outside a test, and one of more than 60 s
leads to a 24 h lockout, never an earlier one than is set (R120); a circuit in a test fails at a reserve below 10% or a failed battery, with the
minute of its failure (R124; at most 179, log entry 30), and leaves it ABORTED where its device is lost (R125). The circuits' devices hold their outputs
after both, and no other device moves (R121). That a reserve field above 100 is no failure is log entry 54 (DESIGN CHOICE). The model's free value stands for
battery code 3 (log entry 3). -/
def Obligations.LampReportsAndRechargeAct : Prop :=
  (∀ (s : State) (c e : Nat), isCircuit c = true → (s.rl.circuits.get c).recharge = some e → e ≤ s.now →
      ∃ t, exec (.rechargeExpiry c) s = .next t ∧ PortKept s t ∧ Keeps [.ou, .ps, .lc, .za, .du, .cu, .mail, .mem, .pending] s t ∧
        t.rl = { s.rl with circuits := t.rl.circuits } ∧ (∀ k, k ≠ c → t.rl.circuits.get k = s.rl.circuits.get k) ∧
        (t.rl.circuits.get c).recharge = none ∧ (t.rl.circuits.get c).result = (s.rl.circuits.get c).result ∧
        ((s.rl.circuits.get c).state = .recharge → s.plan.lampPlanned c = true → s.lampReachable c = true → s.rl.inTest c = false →
          (s.rl.circuits.get c).battery = .sound → (s.rl.circuits.get c).mainsAbsent = false →
          (t.rl.circuits.get c).state = .normal ∧ Noticed 4 t)) ∧
  (∀ (s : State) (c : Nat) (v : Half), isCircuit c = true →
      let t := s.lampReport c v
      LampOutputs s t ∧ Keeps [.xp, .za, .du, .cu, .mail, .mem, .pending] s t ∧
      (s.rl.inTest c = false → v.getLsbD 0 = true → ∀ b, (s.rl.circuits.get c).period = some b →
        (t.rl.circuits.get c).mainsAbsent = false ∧ (t.rl.circuits.get c).period = none ∧
        (t.rl.circuits.get c).recharge =
          if b + 60 < s.now then some (max (s.now + 86400) ((s.rl.circuits.get c).recharge.getD 0)) else (s.rl.circuits.get c).recharge) ∧
      (s.rl.inTest c = false → v.getLsbD 0 = false →
        (t.rl.circuits.get c).mainsAbsent = true ∧ (t.rl.circuits.get c).recharge = (s.rl.circuits.get c).recharge ∧
        (t.rl.circuits.get c).period =
          if (s.rl.circuits.get c).mainsAbsent then (s.rl.circuits.get c).period else some s.now) ∧
      (∀ q, s.rl.test = some q → c ∈ q.circuits →
        (reserveOf v < 10 ∨ v.extractLsb' 1 2 = 1#2 ∨ v.extractLsb' 1 2 = 2#2 →
          (t.rl.circuits.get c).result = .fail (if q.duration then min 179 ((s.now - q.start) / 60) else 0) ∧
          (t.rl.circuits.get c).recharge = (if q.duration then some (s.now + 86400) else (s.rl.circuits.get c).recharge) ∧
          ((∀ b ∈ q.circuits, b = c) → t.rl.test = none) ∧
          ((∃ b ∈ q.circuits, b ≠ c) → ∃ q', t.rl.test = some q' ∧ (∀ b, b ∈ q'.circuits ↔ b ∈ q.circuits ∧ b ≠ c) ∧
            q'.failMask.getLsbD (c - 1) = true)) ∧
        (10 ≤ reserveOf v → v.extractLsb' 1 2 = 0#2 → t.rl.test = some q ∧
          (t.rl.circuits.get c).result = (s.rl.circuits.get c).result ∧ (t.rl.circuits.get c).mainsAbsent = !v.getLsbD 0))) ∧
  (∀ (s : State) (c : Nat) (q : LightTest), isCircuit c = true → s.rl.test = some q → c ∈ q.circuits →
      let t := s.lampLost c
      let x := s.rl.circuits.get c
      let y := t.rl.circuits.get c
      Keeps [.xp, .za, .du, .cu, .mail, .mem, .pending] s t ∧ LampOutputs s t ∧
      y.result = .aborted ∧ y.recharge = (if q.duration then some (s.now + 86400) else x.recharge) ∧ y.mainsAbsent = x.mainsAbsent ∧
      y.battery = x.battery ∧ y.reserve = x.reserve ∧ y.period = (if x.mainsAbsent then some s.now else none) ∧
      (s.plan.lampPlanned c = true → (s.device (s.plan.lampDevice c)).cond ≠ .ok → y.state = .unknown) ∧
      (∀ k, k ≠ c → t.rl.circuits.get k = s.rl.circuits.get k) ∧
      ((∃ b ∈ q.circuits, b ≠ c) → Keeps [.ou, .ps] s t ∧ ∃ p, t.rl.test = some p ∧
        (∀ b, b ∈ p.circuits ↔ b ∈ q.circuits ∧ b ≠ c) ∧ p.passMask = q.passMask ∧ p.failMask = q.failMask ∧ p.duration = q.duration ∧
        p.start = q.start ∧ p.ending = q.ending) ∧
      ((∀ b ∈ q.circuits, b = c) → OrdersOk s → t.rl.test = none ∧ t.ps = { s.ps with testReports := s.ps.testReports + 1 } ∧
        ∀ n, { slot := n, owner := .lights } ∈ s.ou.held → (s.slot n).CompletedAs (t.slot n) .ok [q.passMask, q.failMask]))

/-- RL's records follow from what it holds, after every step (R108, R111, R112, R114, R115, R116). -/
def Obligations.RouteRecordsStayDecided : Prop :=
  ∀ s t : State, MemoryOk s → RoutesOk s → step s = .next t → RoutesOk t

/-- No step leaves a zone that lighting circuits serve with every one of them in DURATION_TEST (R123). -/
def Obligations.NoZoneLosesEveryLampToATest : Prop :=
  ∀ s t : State, MemoryOk s → LightsOk s → step s = .next t → LightsOk t ∧
    ∀ z c, isZone z = true → t.plan.lampPlanned c = true → z ∈ t.plan.servedZones c →
      ∃ b, t.plan.lampPlanned b = true ∧ z ∈ t.plan.servedZones b ∧ (t.rl.circuits.get b).state ≠ .durationTest

/-! ### Detection loops -/

/-- START LOOP and STOP LOOP (R37, R39), and the recovery count of a device that leaves MISSING (R45). The slots other than the order's own may
complete where the devices that leave OK end a lighting test. That the attempt number stays as it is at STOP LOOP is log entry 31 (DEDUCED); that the
device records STOP LOOP rewrites are those of the devices it sets to WAITING, each once, is log entry 5. -/
def Obligations.StartAndStopLoop : Prop :=
  ∀ (s : State) (n l : Nat), OrdersOk s →
    (Works s n (.startLoop l) → ∃ t, exec .startLoop s = .next t ∧ PortKept s t ∧ Keeps [.mem, .pending] s t ∧
      (∀ k, k ≠ l → t.loop k = s.loop k) ∧
      ((s.loop l).state ≠ .idle → (s.loop l).state ≠ .failed → OrderEnds s t n .refusedState [] ∧ Keeps unitBlocks s t) ∧
      ((s.loop l).state = .idle ∨ (s.loop l).state = .failed →
        (t.slot n).handover = .taken ∧ t.ou.working = none ∧ { slot := n, owner := .loop l } ∈ t.ou.held ∧ Noticed 5 t ∧
        t.loop l =
          { s.loop l with
            state := .rollcall, attempt := 1, disagree := 0, extraCount := 0, firstExtra := 0, breakA := 0, breakB := 0,
            worse := .clear, better := .clear, rollHeard := false, sweep := none } ∧
        ∀ a, isAddress a = true →
          let i := l * 96 + a
          (t.device i).extra = false ∧
          if s.plan.devicePlanned i = true ∧ (s.device i).cond ≠ .isolated then
            (t.device i).cond = .waiting ∧ (t.device i).miss = 0 ∧ (t.device i).echoCount = 0 ∧ (t.device i).recovery = 0
          else (t.device i).cond = (s.device i).cond)) ∧
    (Works s n (.stopLoop l) → ∃ t, exec .stopLoop s = .next t ∧ PortKept s t ∧ Keeps [.mem, .pending] s t ∧
      (∀ k, k ≠ l → t.loop k = s.loop k) ∧
      ((s.loop l).state = .idle → OrderEnds s t n .kept [] ∧ Keeps unitBlocks s t) ∧
      ((s.loop l).state ≠ .idle →
        (s.slot n).CompletedAs (t.slot n) .ok [] ∧ t.ou.working = none ∧ t.ou.queue = s.ou.queue ∧ Noticed 5 t ∧
        (∀ m, { slot := m, owner := .loop l } ∈ s.ou.held → (s.slot m).CompletedAs (t.slot m) .aborted [] ∧ ∀ h ∈ t.ou.held, h.slot ≠ m) ∧
        t.loop l =
          { s.loop l with
            state := .idle, worse := .clear, better := .clear, endADown := false, endBDown := false, sweep := none } ∧
        (∀ k, (k = 848 + l ∨ ∃ a, k = 143 + (l * 96 + a) ∧ isAddress a = true ∧ s.plan.devicePlanned (l * 96 + a) = true ∧
            (s.device (l * 96 + a)).cond ≠ .isolated) →
          t.xp.counts.get k = s.xp.counts.get k + 2 ∧ (t.xp.summary.get (k / 32)).getLsbD (k % 32) = true) ∧
        ∀ a, isAddress a = true →
          let i := l * 96 + a
          (t.device i).cond =
            (if s.plan.devicePlanned i = true ∧ (s.device i).cond ≠ .isolated then .waiting else (s.device i).cond) ∧
          (t.device i).miss = (s.device i).miss ∧
          (t.device i).recovery =
            (if s.plan.devicePlanned i = true ∧ (s.device i).cond = .missing then 0 else (s.device i).recovery)))

/-- ISOLATE DEVICE and RESTORE DEVICE (R3, R52, R53). -/
def Obligations.IsolateAndRestoreDevice : Prop :=
  ∀ (s : State) (n l a : Nat),
    let i := l * 96 + a
    let kind := s.plan.deviceKind i
    (Works s n (.isolateDevice l a) → ∃ t, exec .isolateDevice s = .next t ∧ PortKept s t ∧
      Keeps [.ps, .za, .du, .cu, .rl, .mail, .mem, .pending] s t ∧
      if kind = some .detector ∨ kind = some .breakglass ∨ kind = some .sounder then
        (if (s.device i).cond = .isolated then OrderEnds s t n .kept [] ∧ t.lc = s.lc
         else OrderEnds s t n .ok [] ∧ Noticed 5 t ∧ t.lc.loops = s.lc.loops ∧
           t.device i = { s.device i with
             cond := .isolated, recovery := if (s.device i).cond = .missing then 0 else (s.device i).recovery } ∧
           ∀ j, j ≠ i → t.device j = s.device j)
      else OrderEnds s t n .refusedState [] ∧ t.lc = s.lc) ∧
    (Works s n (.restoreDevice l a) → ∃ t, exec .restoreDevice s = .next t ∧ PortKept s t ∧
      Keeps [.ps, .rl, .mem, .pending] s t ∧ t.lc.loops = s.lc.loops ∧
      if (s.device i).cond = .isolated then
        OrderEnds s t n .ok [] ∧ Noticed 5 t ∧ (t.device i).cond = .waiting ∧ (t.device i).miss = 0 ∧ (t.device i).echoCount = 0 ∧
        (t.device i).recovery = 0 ∧ (∀ j, j ≠ i → (t.device j).cond = (s.device j).cond) ∧
        (kind = some .detector ∨ kind = some .breakglass →
          (t.detector i).confirm = 0 ∧ (t.detector i).latched = (s.detector i).latched ∧
          (t.detector i).state = (if (s.detector i).latched then (s.detector i).state else .normal)) ∧
        (kind = some .sounder → (t.device i).output = (s.device i).handed ∧ Keeps [.za, .du, .cu, .mail] s t)
      else OrderEnds s t n .kept [] ∧ Keeps unitBlocks s t)

/-- A sweep begins (R30, R31, R43), and the release broadcast is driven (R36). That the one rewrite of the call-out covers a change of an end status
too is log entry 5 (DESIGN CHOICE). -/
def Obligations.CallOutAndReleaseBroadcast : Prop :=
  ∀ (s : State) (l : Nat) (shortA shortB : Bool), isLoop l = true →
    ((s.loop l).state ≠ .idle → (s.loop l).sweep = none →
      ∃ t, exec (.callOut l shortA shortB) s = .next t ∧ PortKept s t ∧
        Keeps [.ou, .ps, .za, .du, .cu, .rl, .mail, .mem, .pending] s t ∧ t.lc.devices = s.lc.devices ∧
        (∀ k, k ≠ l → t.loop k = s.loop k) ∧ t.xp.counts.get (848 + l) = s.xp.counts.get (848 + l) + 2 ∧
        ∃ w, t.loop l = { s.loop l with number := (s.loop l).next, next := ((s.loop l).next + 1) % 16, endADown := shortA,
                                        endBDown := shortB, sweep := some w } ∧
          w.census = decide ((s.loop l).state = .rollcall) ∧ w.openUsed = 0 ∧
          w.polls.map Poll.addr = (List.range' 1 96).filter (fun a => (s.loop l).state = .rollcall ||
            (s.plan.devicePlanned (l * 96 + a) && ((s.loop l).next &&& s.plan.filterMask (l * 96 + a)) == s.plan.filterValue (l * 96 + a))) ∧
          ∀ q ∈ w.polls, q.heardA = false ∧ q.heardB = false ∧ q.taken = false ∧ q.sent =
            match s.plan.deviceKind (l * 96 + q.addr) with
            | none => none
            | some .detector => none
            | some .breakglass => none
            | some _ => (s.device (l * 96 + q.addr)).output) ∧
    (∀ e, (s.loop l).broadcastAt = some e → e ≤ s.now →
      ∃ t, exec (.releaseBroadcast l shortA shortB) s = .next t ∧ PortKept s t ∧
        Keeps [.ou, .ps, .za, .du, .cu, .rl, .mail, .mem, .pending] s t ∧ t.lc.devices = s.lc.devices ∧
        (∀ k, k ≠ l → t.loop k = s.loop k) ∧
        t.loop l = { s.loop l with broadcastAt := some (s.now + 1), broadcastEnds := some (!shortA, !shortB) })

/-- An answer in the roll-call position of a planned device (R34, R45, R47), passed on to its owner where the device is then OK (R2, R4, R57, R87,
R118), an extra answer (R51), an answer in the open segment (R33), passed on alike, and a disagreement in the position of an address that is not
planned (R34). Log entries, all DESIGN CHOICE: 23 for the open positions and for a disagreement counted before it is asked whether the address had an
entry, 43 for the one address of an answer, 44 for a disagreement of an unplanned address. -/
def Obligations.AnswersAreTaken : Prop :=
  (∀ (s : State) (l : Nat) (w : Sweep) (q : Poll) (atA atB : Option AnswerContent) (kind : DeviceKind), isLoop l = true →
      isAddress q.addr = true → (s.loop l).sweep = some w → w.polls.find? (fun p => p.addr = q.addr) = some q →
      q.heardA = false → q.heardB = false → s.plan.deviceKind (l * 96 + q.addr) = some kind →
      let i := l * 96 + q.addr
      let a := if (s.loop l).endADown then none else atA
      let b := if (s.loop l).endBDown then none else atB
      let x := s.device i
      ∃ t, exec (.answer l .rollCall q.addr atA atB) s = .next t ∧ PortKept s t ∧ Keeps [.mem, .pending] s t ∧
        (∀ j, j ≠ i → (t.device j).cond = (s.device j).cond ∧ (t.device j).miss = (s.device j).miss) ∧
        (a = none → b = none → t.device i = x ∧ t.lc.loops = s.lc.loops) ∧
        (∀ c d, a = some c → b = some d → c ≠ d →
          (t.loop l).pollOf q.addr = some { q with heardA := true, heardB := true, taken := false } ∧
          (t.loop l).disagree = (if 255 ≤ (s.loop l).disagree then 255 else (s.loop l).disagree + 1) ∧ t.lc.devices = s.lc.devices ∧
          Keeps [.ou, .ps, .za, .du, .cu, .rl, .mail] s t) ∧
        (∀ c, (a = some c ∧ (b = none ∨ b = some c)) ∨ (a = none ∧ b = some c) →
          (t.loop l).disagree = (s.loop l).disagree ∧ (t.loop l).pollOf q.addr = some { q with heardA := a.isSome, heardB := b.isSome, taken := true } ∧
          (x.cond = .isolated → t.device i = x ∧ Keeps [.ou, .ps, .za, .du, .cu, .rl, .mail] s t) ∧
          (x.cond ≠ .isolated →
            let checks := hasOutput kind && hasOutput c.kind
            let echoes := fun v => q.sent = some v ∧ checks = true
            (t.device i).miss = 0 ∧ (t.device i).faultBit = c.fault ∧
            (hasValue c.kind = true → (t.device i).value = c.value) ∧
            (∀ v, echoes v → c.echo = v → (t.device i).echoCount = 0 ∧ (t.device i).outputFault = false) ∧
            (∀ v, echoes v → c.echo ≠ v → (t.device i).echoCount = min 2 (x.echoCount + 1) ∧
              ((t.device i).outputFault = true ↔ x.outputFault = true ∨ 1 ≤ x.echoCount)) ∧
            ((t.device i).cond =
              if c.kind ≠ kind then .wrongKind
              else if c.fault = true ∨ (t.device i).outputFault = true then .fault
              else if x.cond = .missing ∧ x.recovery = 0 then .missing
              else .ok) ∧
            ((t.device i).cond = .missing → (t.device i).recovery = 1) ∧ ((t.device i).cond ≠ .missing → (t.device i).recovery = 0) ∧
            ((t.device i).cond ≠ x.cond → Noticed 5 t) ∧
            ((t.device i).cond = .ok → PassedOn s t i kind c.value)))) ∧
  (∀ (s : State) (l addr : Nat) (w : Sweep) (atA atB : Option AnswerContent), isLoop l = true → isAddress addr = true →
      (s.loop l).sweep = some w →
      let i := l * 96 + addr
      let a := if (s.loop l).endADown then none else atA
      let b := if (s.loop l).endBDown then none else atB
      let x := s.device i
      let heard := fun c => (a = some c ∧ (b = none ∨ b = some c)) ∨ (a = none ∧ b = some c)
      let marked := fun (t : State) (c : AnswerContent) =>
        (∀ j, j ≠ i → t.device j = s.device j) ∧ t.device i = { x with extra := true, extraKind := some c.kind } ∧
        (t.loop l).extraCount = (if x.extra then (s.loop l).extraCount else (s.loop l).extraCount + 1) ∧
        (t.loop l).firstExtra = (if x.extra = false ∧ (s.loop l).extraCount = 0 then addr else (s.loop l).firstExtra) ∧
        (x.extra = false → Noticed 5 t) ∧ Keeps [.ou, .ps, .za, .du, .cu, .rl, .mail] s t
      (∀ (q : Poll) (c : AnswerContent), w.polls.find? (fun p => p.addr = addr) = some q → q.heardA = false → q.heardB = false →
        s.plan.deviceKind i = none → heard c →
        ∃ t, exec (.answer l .rollCall addr atA atB) s = .next t ∧ PortKept s t ∧ Keeps [.mem, .pending] s t ∧ marked t c) ∧
      (∀ q : Poll, w.polls.find? (fun p => p.addr = addr) = some q → q.heardA = false → q.heardB = false → s.plan.deviceKind i = none →
        ∀ c d, a = some c → b = some d → c ≠ d →
          ∃ t, exec (.answer l .rollCall addr atA atB) s = .next t ∧ PortKept s t ∧ Keeps [.mem, .pending] s t ∧
            (t.loop l).pollOf addr = some { q with heardA := true, heardB := true, taken := false } ∧
            (t.loop l).disagree = (if 255 ≤ (s.loop l).disagree then 255 else (s.loop l).disagree + 1) ∧ t.lc.devices = s.lc.devices ∧
            Keeps [.ou, .ps, .za, .du, .cu, .rl, .mail] s t) ∧
      (w.census = false → w.openUsed < 12 →
        ∃ t, exec (.answer l .openSegment addr atA atB) s = .next t ∧ PortKept s t ∧ Keeps [.mem, .pending] s t ∧
          (t.loop l).sweep = some { w with openUsed := w.openUsed + 1 } ∧
          (∀ c d, a = some c → b = some d → c ≠ d →
            (t.loop l).disagree = (if 255 ≤ (s.loop l).disagree then 255 else (s.loop l).disagree + 1) ∧ t.lc.devices = s.lc.devices ∧
            Keeps [.ou, .ps, .za, .du, .cu, .rl, .mail] s t) ∧
          (∀ c, heard c → (t.loop l).disagree = (s.loop l).disagree ∧
            ((∃ q ∈ w.polls, q.addr = addr) → t.lc.devices = s.lc.devices ∧ Keeps [.ou, .ps, .za, .du, .cu, .rl, .mail] s t) ∧
            ((∀ q ∈ w.polls, q.addr ≠ addr) → s.plan.deviceKind i = none → marked t c) ∧
            ((∀ q ∈ w.polls, q.addr ≠ addr) → ∀ kind, s.plan.deviceKind i = some kind →
              (x.cond = .isolated → t.device i = x ∧ Keeps [.ou, .ps, .za, .du, .cu, .rl, .mail] s t) ∧
              (x.cond ≠ .isolated →
              (t.device i).miss = 0 ∧ (t.device i).faultBit = c.fault ∧ (hasValue c.kind = true → (t.device i).value = c.value) ∧
              (t.device i).echoCount = x.echoCount ∧ (t.device i).outputFault = x.outputFault ∧
              (t.device i).cond =
                (if c.kind ≠ kind then .wrongKind
                else if c.fault = true ∨ x.outputFault = true then .fault
                else if x.cond = .missing ∧ x.recovery = 0 then .missing
                else .ok) ∧
              (t.device i).recovery = (if (t.device i).cond = .missing then 1 else 0) ∧
              ((t.device i).cond ≠ x.cond → Noticed 5 t) ∧ ((t.device i).cond = .ok → PassedOn s t i kind c.value))))))

/-- The end of a regular sweep (R46, R49): the misses of the due polls unheard, then the classification, the loop state and the break location (R44);
and the end of a roll-call (R38): the devices still WAITING go MISSING, the loop takes the state its last sweep's classification corresponds to, and the
held START LOOP completes with its six words; a device that is not WAITING is miss-counted there too (R38, R46). That a count above a new lower limit becomes the limit is log entry 32 (DEDUCED); that the words count the
devices after R42 has acted is log entry 41, and that a sweep in which no device is due is classified none with both ends DOWN too log entry 53 (both
DESIGN CHOICE). -/
def Obligations.SweepEndFinishesTheSweep : Prop :=
  ∀ (s : State) (l : Nat) (w : Sweep), isLoop l = true → OrdersOk s → (s.loop l).sweep = some w →
    (w.census = false → (s.loop l).state.running = true → (s.loop l).state ≠ .rollcall →
      ∃ t, exec (.sweepEnd l) s = .next t ∧ PortKept s t ∧ Keeps [.mem, .pending] s t ∧ (t.loop l).sweep = none ∧
        (∀ k, k ≠ l → t.loop k = s.loop k) ∧ ((t.loop l).state ≠ (s.loop l).state → Noticed 5 t) ∧
        (t.loop l).state =
          (match classify (s.restricted l w) with
          | none => (s.loop l).state
          | some g => ((s.loop l).classified (s.plan.restoreCount l) g).state) ∧
        t.xp.counts.get (848 + l) = s.xp.counts.get (848 + l) + 2 ∧
        (let breaks := (t.loop l).state ≠ (s.loop l).state ∧ ((t.loop l).state = .split ∨ (t.loop l).state = .severed) ∧
          (s.loop l).endADown = false ∧ (s.loop l).endBDown = false
        (breaks → BreakBetween (notLone none (s.restricted l w)) (t.loop l).breakA (t.loop l).breakB) ∧
        (¬ breaks → (t.loop l).breakA = (s.loop l).breakA ∧ (t.loop l).breakB = (s.loop l).breakB)) ∧
        ∀ a, isAddress a = true → s.plan.devicePlanned (l * 96 + a) = true → (s.device (l * 96 + a)).cond ≠ .isolated →
          let i := l * 96 + a
          let missed := ∃ q ∈ w.polls, q.addr = a ∧ q.taken = false
          ((t.loop l).state = (s.loop l).state ∨ (t.loop l).state ≠ .failed →
            MissCounted (s.plan.missLimit l) missed (s.device i) (t.device i)) ∧
          ((t.loop l).state ≠ (s.loop l).state → (t.loop l).state = .failed →
            MissingWithLoop (s.plan.missLimit l) missed (s.device i) (t.device i))) ∧
    (w.census = true → (s.loop l).state = .rollcall →
      ∃ t, exec (.sweepEnd l) s = .next t ∧ PortKept s t ∧ Keeps [.mem, .pending] s t ∧ (t.loop l).sweep = none ∧
        (∀ k, k ≠ l → t.loop k = s.loop k) ∧
        (let breaks := ((t.loop l).state = .split ∨ (t.loop l).state = .severed) ∧
          (s.loop l).endADown = false ∧ (s.loop l).endBDown = false
        (breaks → BreakBetween (notLone none (s.restricted l w)) (t.loop l).breakA (t.loop l).breakB) ∧
        (¬ breaks → (t.loop l).breakA = (s.loop l).breakA ∧ (t.loop l).breakB = (s.loop l).breakB)) ∧
        let waits := ∃ a, isAddress a = true ∧ s.plan.devicePlanned (l * 96 + a) = true ∧ (s.device (l * 96 + a)).cond = .waiting
        let missed := fun a => ∃ q ∈ w.polls, q.addr = a ∧ q.taken = false
        let heard := (s.loop l).rollHeard = true ∨ ∃ q ∈ s.restricted l w, q.heardA = true ∨ q.heardB = true
        let counted := fun c : DeviceCond => wordOf ((List.range' 1 96).filter (fun a =>
          s.plan.devicePlanned (l * 96 + a) && decide ((t.device (l * 96 + a)).cond = c))).length
        (waits → (s.loop l).attempt < s.plan.rollCallAttempts l →
          (t.loop l).state = .rollcall ∧ (t.loop l).attempt = (s.loop l).attempt + 1 ∧
          ∀ a, isAddress a = true → s.plan.devicePlanned (l * 96 + a) = true → (s.device (l * 96 + a)).cond ≠ .isolated →
            let x := s.device (l * 96 + a)
            let y := t.device (l * 96 + a)
            (x.cond = .waiting → y.cond = .waiting ∧ y.miss = x.miss ∧ y.recovery = x.recovery) ∧
            (x.cond ≠ .waiting → MissCounted (s.plan.missLimit l) (missed a) x y)) ∧
        (¬ waits ∨ s.plan.rollCallAttempts l ≤ (s.loop l).attempt →
          (t.loop l).state ≠ .rollcall ∧ Noticed 5 t ∧
          (∀ a, isAddress a = true → s.plan.devicePlanned (l * 96 + a) = true → (t.device (l * 96 + a)).cond ≠ .waiting) ∧
          (∀ a, isAddress a = true → s.plan.devicePlanned (l * 96 + a) = true → (s.device (l * 96 + a)).cond ≠ .isolated →
            let x := s.device (l * 96 + a)
            let y := t.device (l * 96 + a)
            (x.cond = .waiting → y.cond = .missing ∧ y.miss = s.plan.missLimit l) ∧
            (x.cond ≠ .waiting → (t.loop l).state ≠ .failed → MissCounted (s.plan.missLimit l) (missed a) x y) ∧
            (x.cond ≠ .waiting → (t.loop l).state = .failed → MissingWithLoop (s.plan.missLimit l) (missed a) x y)) ∧
          (¬ heard → (t.loop l).state = .failed) ∧
          (heard → ∀ g, classify (s.restricted l w) = some g → (t.loop l).state = g.state) ∧
          ∀ n, { slot := n, owner := .loop l } ∈ s.ou.held →
            (∀ h ∈ t.ou.held, h.slot ≠ n) ∧ (t.slot n).handover = .done ∧
            (t.slot n).completion = (if heard then .ok else .failed) ∧
            (∀ k, 1 ≤ k → k ≤ 6 → (t.slot n).results.get k =
              (if heard then
                [wordOf (t.loop l).state.code, counted .ok, counted .missing, counted .wrongKind, wordOf (t.loop l).extraCount,
                  counted .fault].getD (k - 1) 0
               else 0))))

/-- R40: the polls left after the lone ones are set aside, and the first line of the table that holds; its first line, no poll, holds with both ends
DOWN too (log entry 53, DESIGN CHOICE). R41: from clear runs, a loop worsens at the
second worse sweep, to the better of the two; it improves only at the sweep that makes its restore count of better ones, to the worst of them; a sweep
that matches the state clears both runs. -/
def Obligations.SweepsAreClassifiedAndCounted : Prop :=
  (∀ polls : List Poll,
      let both := fun j => (polls[j]?).any Poll.both
      let lone := fun j => 2 ≤ polls.length ∧ both j = false ∧ (1 ≤ j → both (j - 1) = true) ∧ (j + 1 < polls.length → both (j + 1) = true)
      let counts := fun q => ∃ j, polls[j]? = some q ∧ ¬ lone j
      let dead := ∀ q ∈ polls, q.heardA = false ∧ q.heardB = false
      let healthy := ∀ q, counts q → q.heardA = true ∧ q.heardB = true
      let severed := ∃ q, counts q ∧ q.heardA = false ∧ q.heardB = false
      (∀ q, q ∈ notLone none polls ↔ counts q) ∧
      (polls = [] → classify polls = none) ∧
      (polls ≠ [] → dead → classify polls = some .dead) ∧
      (polls ≠ [] → ¬ dead → healthy → classify polls = some .healthy) ∧
      (polls ≠ [] → ¬ dead → ¬ healthy → severed → classify polls = some .severed) ∧
      (polls ≠ [] → ¬ dead → ¬ healthy → ¬ severed → classify polls = some .split)) ∧
  (∀ (x : Loop) (here : Grade) (restore : Nat), x.state.grade = some here → x.worse = .clear → x.better = .clear →
      (∀ g, here.rank < g.rank → ∀ h, here.rank < h.rank →
        (x.classified restore g).state = x.state ∧ ((x.classified restore g).classified restore h).state = (g.better h).state) ∧
      (∀ gs : List Grade, gs ≠ [] → (∀ g ∈ gs, g.rank < here.rank) → 1 ≤ restore →
        let after := fun hs : List Grade => hs.foldl (fun y g => y.classified restore g) x
        (gs.length < restore → (after gs).state = x.state ∧ (after (gs ++ [here])).better = .clear) ∧
        (gs.length = restore → ∃ g ∈ gs, (after gs).state = g.state ∧ ∀ h ∈ gs, h.rank ≤ g.rank)) ∧
      (x.classified restore here).state = x.state)

/-! ### Orders that have lost their slot -/

/-- An order whose slot an interface reset took (R163, R173), in every state the reset and whatever came after it leave: its effects are those that it
would have with any slot that is not held, no completion is written, and it is not entered in the held-order list; that a heldable order runs on so is
the model's choice (log entry 20, DEDUCED). -/
def Obligations.OrdersActWithoutTheirSlot : Prop :=
  ∀ (s : State) (n : Nat) (o : Order) (tag : Half), OrdersOk s → s.ou.working = some { slot := none, order := o, tag := tag } →
    o.argsOk s.plan = true → isSlot n = true → n ∉ s.ou.held.map HeldOrder.slot →
    OrdersOk (s.withSlot n) ∧ Works (s.withSlot n) n o ∧
    ∃ t, exec o.command (s.withSlot n) = .next t ∧ ∃ r, exec o.command s = .next r ∧ Keeps unitBlocks t r ∧ PortKept t r ∧
      r.xp = { t.xp with notice := r.xp.notice } ∧ (∀ i, i ≠ 0 → (Noticed i r ↔ Noticed i t)) ∧
      r.ou.working = none ∧ r.ou.queue = s.ou.queue ∧ r.slot n = s.slot n ∧ (∀ m, m ≠ n → r.slot m = t.slot m) ∧
      r.ou.held = t.ou.held.filter (fun h => h.slot ≠ n)
end

