-- ==== Sys2Proof/Laws/State.lean ====
section
/-!
SUPPORT. One lemma per field per update of State: what each field reads after one block, or the queue, has been changed.
-/

namespace Sys2Proof.Machine

@[simp] theorem State.onXp_xp (f : Xp → Xp) (s : State) : (s.onXp f).xp = f s.xp := rfl
@[simp] theorem State.onXp_ou (f : Xp → Xp) (s : State) : (s.onXp f).ou = s.ou := rfl
@[simp] theorem State.onXp_ps (f : Xp → Xp) (s : State) : (s.onXp f).ps = s.ps := rfl
@[simp] theorem State.onXp_lc (f : Xp → Xp) (s : State) : (s.onXp f).lc = s.lc := rfl
@[simp] theorem State.onXp_za (f : Xp → Xp) (s : State) : (s.onXp f).za = s.za := rfl
@[simp] theorem State.onXp_du (f : Xp → Xp) (s : State) : (s.onXp f).du = s.du := rfl
@[simp] theorem State.onXp_cu (f : Xp → Xp) (s : State) : (s.onXp f).cu = s.cu := rfl
@[simp] theorem State.onXp_rl (f : Xp → Xp) (s : State) : (s.onXp f).rl = s.rl := rfl
@[simp] theorem State.onXp_mail (f : Xp → Xp) (s : State) : (s.onXp f).mail = s.mail := rfl
@[simp] theorem State.onXp_mem (f : Xp → Xp) (s : State) : (s.onXp f).mem = s.mem := rfl
@[simp] theorem State.onXp_pending (f : Xp → Xp) (s : State) : (s.onXp f).pending = s.pending := rfl

@[simp] theorem State.onOu_xp (f : Ou → Ou) (s : State) : (s.onOu f).xp = s.xp := rfl
@[simp] theorem State.onOu_ou (f : Ou → Ou) (s : State) : (s.onOu f).ou = f s.ou := rfl
@[simp] theorem State.onOu_ps (f : Ou → Ou) (s : State) : (s.onOu f).ps = s.ps := rfl
@[simp] theorem State.onOu_lc (f : Ou → Ou) (s : State) : (s.onOu f).lc = s.lc := rfl
@[simp] theorem State.onOu_za (f : Ou → Ou) (s : State) : (s.onOu f).za = s.za := rfl
@[simp] theorem State.onOu_du (f : Ou → Ou) (s : State) : (s.onOu f).du = s.du := rfl
@[simp] theorem State.onOu_cu (f : Ou → Ou) (s : State) : (s.onOu f).cu = s.cu := rfl
@[simp] theorem State.onOu_rl (f : Ou → Ou) (s : State) : (s.onOu f).rl = s.rl := rfl
@[simp] theorem State.onOu_mail (f : Ou → Ou) (s : State) : (s.onOu f).mail = s.mail := rfl
@[simp] theorem State.onOu_mem (f : Ou → Ou) (s : State) : (s.onOu f).mem = s.mem := rfl
@[simp] theorem State.onOu_pending (f : Ou → Ou) (s : State) : (s.onOu f).pending = s.pending := rfl

@[simp] theorem State.onPs_xp (f : Ps → Ps) (s : State) : (s.onPs f).xp = s.xp := rfl
@[simp] theorem State.onPs_ou (f : Ps → Ps) (s : State) : (s.onPs f).ou = s.ou := rfl
@[simp] theorem State.onPs_ps (f : Ps → Ps) (s : State) : (s.onPs f).ps = f s.ps := rfl
@[simp] theorem State.onPs_lc (f : Ps → Ps) (s : State) : (s.onPs f).lc = s.lc := rfl
@[simp] theorem State.onPs_za (f : Ps → Ps) (s : State) : (s.onPs f).za = s.za := rfl
@[simp] theorem State.onPs_du (f : Ps → Ps) (s : State) : (s.onPs f).du = s.du := rfl
@[simp] theorem State.onPs_cu (f : Ps → Ps) (s : State) : (s.onPs f).cu = s.cu := rfl
@[simp] theorem State.onPs_rl (f : Ps → Ps) (s : State) : (s.onPs f).rl = s.rl := rfl
@[simp] theorem State.onPs_mail (f : Ps → Ps) (s : State) : (s.onPs f).mail = s.mail := rfl
@[simp] theorem State.onPs_mem (f : Ps → Ps) (s : State) : (s.onPs f).mem = s.mem := rfl
@[simp] theorem State.onPs_pending (f : Ps → Ps) (s : State) : (s.onPs f).pending = s.pending := rfl

@[simp] theorem State.onLc_xp (f : Lc → Lc) (s : State) : (s.onLc f).xp = s.xp := rfl
@[simp] theorem State.onLc_ou (f : Lc → Lc) (s : State) : (s.onLc f).ou = s.ou := rfl
@[simp] theorem State.onLc_ps (f : Lc → Lc) (s : State) : (s.onLc f).ps = s.ps := rfl
@[simp] theorem State.onLc_lc (f : Lc → Lc) (s : State) : (s.onLc f).lc = f s.lc := rfl
@[simp] theorem State.onLc_za (f : Lc → Lc) (s : State) : (s.onLc f).za = s.za := rfl
@[simp] theorem State.onLc_du (f : Lc → Lc) (s : State) : (s.onLc f).du = s.du := rfl
@[simp] theorem State.onLc_cu (f : Lc → Lc) (s : State) : (s.onLc f).cu = s.cu := rfl
@[simp] theorem State.onLc_rl (f : Lc → Lc) (s : State) : (s.onLc f).rl = s.rl := rfl
@[simp] theorem State.onLc_mail (f : Lc → Lc) (s : State) : (s.onLc f).mail = s.mail := rfl
@[simp] theorem State.onLc_mem (f : Lc → Lc) (s : State) : (s.onLc f).mem = s.mem := rfl
@[simp] theorem State.onLc_pending (f : Lc → Lc) (s : State) : (s.onLc f).pending = s.pending := rfl

@[simp] theorem State.onZa_xp (f : Za → Za) (s : State) : (s.onZa f).xp = s.xp := rfl
@[simp] theorem State.onZa_ou (f : Za → Za) (s : State) : (s.onZa f).ou = s.ou := rfl
@[simp] theorem State.onZa_ps (f : Za → Za) (s : State) : (s.onZa f).ps = s.ps := rfl
@[simp] theorem State.onZa_lc (f : Za → Za) (s : State) : (s.onZa f).lc = s.lc := rfl
@[simp] theorem State.onZa_za (f : Za → Za) (s : State) : (s.onZa f).za = f s.za := rfl
@[simp] theorem State.onZa_du (f : Za → Za) (s : State) : (s.onZa f).du = s.du := rfl
@[simp] theorem State.onZa_cu (f : Za → Za) (s : State) : (s.onZa f).cu = s.cu := rfl
@[simp] theorem State.onZa_rl (f : Za → Za) (s : State) : (s.onZa f).rl = s.rl := rfl
@[simp] theorem State.onZa_mail (f : Za → Za) (s : State) : (s.onZa f).mail = s.mail := rfl
@[simp] theorem State.onZa_mem (f : Za → Za) (s : State) : (s.onZa f).mem = s.mem := rfl
@[simp] theorem State.onZa_pending (f : Za → Za) (s : State) : (s.onZa f).pending = s.pending := rfl

@[simp] theorem State.onDu_xp (f : Du → Du) (s : State) : (s.onDu f).xp = s.xp := rfl
@[simp] theorem State.onDu_ou (f : Du → Du) (s : State) : (s.onDu f).ou = s.ou := rfl
@[simp] theorem State.onDu_ps (f : Du → Du) (s : State) : (s.onDu f).ps = s.ps := rfl
@[simp] theorem State.onDu_lc (f : Du → Du) (s : State) : (s.onDu f).lc = s.lc := rfl
@[simp] theorem State.onDu_za (f : Du → Du) (s : State) : (s.onDu f).za = s.za := rfl
@[simp] theorem State.onDu_du (f : Du → Du) (s : State) : (s.onDu f).du = f s.du := rfl
@[simp] theorem State.onDu_cu (f : Du → Du) (s : State) : (s.onDu f).cu = s.cu := rfl
@[simp] theorem State.onDu_rl (f : Du → Du) (s : State) : (s.onDu f).rl = s.rl := rfl
@[simp] theorem State.onDu_mail (f : Du → Du) (s : State) : (s.onDu f).mail = s.mail := rfl
@[simp] theorem State.onDu_mem (f : Du → Du) (s : State) : (s.onDu f).mem = s.mem := rfl
@[simp] theorem State.onDu_pending (f : Du → Du) (s : State) : (s.onDu f).pending = s.pending := rfl

@[simp] theorem State.onCu_xp (f : Cu → Cu) (s : State) : (s.onCu f).xp = s.xp := rfl
@[simp] theorem State.onCu_ou (f : Cu → Cu) (s : State) : (s.onCu f).ou = s.ou := rfl
@[simp] theorem State.onCu_ps (f : Cu → Cu) (s : State) : (s.onCu f).ps = s.ps := rfl
@[simp] theorem State.onCu_lc (f : Cu → Cu) (s : State) : (s.onCu f).lc = s.lc := rfl
@[simp] theorem State.onCu_za (f : Cu → Cu) (s : State) : (s.onCu f).za = s.za := rfl
@[simp] theorem State.onCu_du (f : Cu → Cu) (s : State) : (s.onCu f).du = s.du := rfl
@[simp] theorem State.onCu_cu (f : Cu → Cu) (s : State) : (s.onCu f).cu = f s.cu := rfl
@[simp] theorem State.onCu_rl (f : Cu → Cu) (s : State) : (s.onCu f).rl = s.rl := rfl
@[simp] theorem State.onCu_mail (f : Cu → Cu) (s : State) : (s.onCu f).mail = s.mail := rfl
@[simp] theorem State.onCu_mem (f : Cu → Cu) (s : State) : (s.onCu f).mem = s.mem := rfl
@[simp] theorem State.onCu_pending (f : Cu → Cu) (s : State) : (s.onCu f).pending = s.pending := rfl

@[simp] theorem State.onRl_xp (f : Rl → Rl) (s : State) : (s.onRl f).xp = s.xp := rfl
@[simp] theorem State.onRl_ou (f : Rl → Rl) (s : State) : (s.onRl f).ou = s.ou := rfl
@[simp] theorem State.onRl_ps (f : Rl → Rl) (s : State) : (s.onRl f).ps = s.ps := rfl
@[simp] theorem State.onRl_lc (f : Rl → Rl) (s : State) : (s.onRl f).lc = s.lc := rfl
@[simp] theorem State.onRl_za (f : Rl → Rl) (s : State) : (s.onRl f).za = s.za := rfl
@[simp] theorem State.onRl_du (f : Rl → Rl) (s : State) : (s.onRl f).du = s.du := rfl
@[simp] theorem State.onRl_cu (f : Rl → Rl) (s : State) : (s.onRl f).cu = s.cu := rfl
@[simp] theorem State.onRl_rl (f : Rl → Rl) (s : State) : (s.onRl f).rl = f s.rl := rfl
@[simp] theorem State.onRl_mail (f : Rl → Rl) (s : State) : (s.onRl f).mail = s.mail := rfl
@[simp] theorem State.onRl_mem (f : Rl → Rl) (s : State) : (s.onRl f).mem = s.mem := rfl
@[simp] theorem State.onRl_pending (f : Rl → Rl) (s : State) : (s.onRl f).pending = s.pending := rfl

@[simp] theorem State.onMail_xp (f : Mail → Mail) (s : State) : (s.onMail f).xp = s.xp := rfl
@[simp] theorem State.onMail_ou (f : Mail → Mail) (s : State) : (s.onMail f).ou = s.ou := rfl
@[simp] theorem State.onMail_ps (f : Mail → Mail) (s : State) : (s.onMail f).ps = s.ps := rfl
@[simp] theorem State.onMail_lc (f : Mail → Mail) (s : State) : (s.onMail f).lc = s.lc := rfl
@[simp] theorem State.onMail_za (f : Mail → Mail) (s : State) : (s.onMail f).za = s.za := rfl
@[simp] theorem State.onMail_du (f : Mail → Mail) (s : State) : (s.onMail f).du = s.du := rfl
@[simp] theorem State.onMail_cu (f : Mail → Mail) (s : State) : (s.onMail f).cu = s.cu := rfl
@[simp] theorem State.onMail_rl (f : Mail → Mail) (s : State) : (s.onMail f).rl = s.rl := rfl
@[simp] theorem State.onMail_mail (f : Mail → Mail) (s : State) : (s.onMail f).mail = f s.mail := rfl
@[simp] theorem State.onMail_mem (f : Mail → Mail) (s : State) : (s.onMail f).mem = s.mem := rfl
@[simp] theorem State.onMail_pending (f : Mail → Mail) (s : State) : (s.onMail f).pending = s.pending := rfl

@[simp] theorem State.onMem_xp (f : Memory → Memory) (s : State) : (s.onMem f).xp = s.xp := rfl
@[simp] theorem State.onMem_ou (f : Memory → Memory) (s : State) : (s.onMem f).ou = s.ou := rfl
@[simp] theorem State.onMem_ps (f : Memory → Memory) (s : State) : (s.onMem f).ps = s.ps := rfl
@[simp] theorem State.onMem_lc (f : Memory → Memory) (s : State) : (s.onMem f).lc = s.lc := rfl
@[simp] theorem State.onMem_za (f : Memory → Memory) (s : State) : (s.onMem f).za = s.za := rfl
@[simp] theorem State.onMem_du (f : Memory → Memory) (s : State) : (s.onMem f).du = s.du := rfl
@[simp] theorem State.onMem_cu (f : Memory → Memory) (s : State) : (s.onMem f).cu = s.cu := rfl
@[simp] theorem State.onMem_rl (f : Memory → Memory) (s : State) : (s.onMem f).rl = s.rl := rfl
@[simp] theorem State.onMem_mail (f : Memory → Memory) (s : State) : (s.onMem f).mail = s.mail := rfl
@[simp] theorem State.onMem_mem (f : Memory → Memory) (s : State) : (s.onMem f).mem = f s.mem := rfl
@[simp] theorem State.onMem_pending (f : Memory → Memory) (s : State) : (s.onMem f).pending = s.pending := rfl

@[simp] theorem State.withPending_xp (q : List Instr) (s : State) : (s.withPending q).xp = s.xp := rfl
@[simp] theorem State.withPending_ou (q : List Instr) (s : State) : (s.withPending q).ou = s.ou := rfl
@[simp] theorem State.withPending_ps (q : List Instr) (s : State) : (s.withPending q).ps = s.ps := rfl
@[simp] theorem State.withPending_lc (q : List Instr) (s : State) : (s.withPending q).lc = s.lc := rfl
@[simp] theorem State.withPending_za (q : List Instr) (s : State) : (s.withPending q).za = s.za := rfl
@[simp] theorem State.withPending_du (q : List Instr) (s : State) : (s.withPending q).du = s.du := rfl
@[simp] theorem State.withPending_cu (q : List Instr) (s : State) : (s.withPending q).cu = s.cu := rfl
@[simp] theorem State.withPending_rl (q : List Instr) (s : State) : (s.withPending q).rl = s.rl := rfl
@[simp] theorem State.withPending_mail (q : List Instr) (s : State) : (s.withPending q).mail = s.mail := rfl
@[simp] theorem State.withPending_mem (q : List Instr) (s : State) : (s.withPending q).mem = s.mem := rfl
@[simp] theorem State.withPending_pending (q : List Instr) (s : State) : (s.withPending q).pending = q := rfl

/-! The updates of one record, as updates of its block. -/

@[simp] theorem State.setZone_xp (n : Nat) (f : Zone → Zone) (s : State) : (s.setZone n f).xp = s.xp := rfl
@[simp] theorem State.setZone_ou (n : Nat) (f : Zone → Zone) (s : State) : (s.setZone n f).ou = s.ou := rfl
@[simp] theorem State.setZone_ps (n : Nat) (f : Zone → Zone) (s : State) : (s.setZone n f).ps = s.ps := rfl
@[simp] theorem State.setZone_lc (n : Nat) (f : Zone → Zone) (s : State) : (s.setZone n f).lc = s.lc := rfl
@[simp] theorem State.setZone_za (n : Nat) (f : Zone → Zone) (s : State) : (s.setZone n f).za = { s.za with zones := s.za.zones.modify n f } := rfl
@[simp] theorem State.setZone_du (n : Nat) (f : Zone → Zone) (s : State) : (s.setZone n f).du = s.du := rfl
@[simp] theorem State.setZone_cu (n : Nat) (f : Zone → Zone) (s : State) : (s.setZone n f).cu = s.cu := rfl
@[simp] theorem State.setZone_rl (n : Nat) (f : Zone → Zone) (s : State) : (s.setZone n f).rl = s.rl := rfl
@[simp] theorem State.setZone_mail (n : Nat) (f : Zone → Zone) (s : State) : (s.setZone n f).mail = s.mail := rfl
@[simp] theorem State.setZone_mem (n : Nat) (f : Zone → Zone) (s : State) : (s.setZone n f).mem = s.mem := rfl
@[simp] theorem State.setZone_pending (n : Nat) (f : Zone → Zone) (s : State) : (s.setZone n f).pending = s.pending := rfl

@[simp] theorem State.setArea_xp (n : Nat) (f : Area → Area) (s : State) : (s.setArea n f).xp = s.xp := rfl
@[simp] theorem State.setArea_ou (n : Nat) (f : Area → Area) (s : State) : (s.setArea n f).ou = s.ou := rfl
@[simp] theorem State.setArea_ps (n : Nat) (f : Area → Area) (s : State) : (s.setArea n f).ps = s.ps := rfl
@[simp] theorem State.setArea_lc (n : Nat) (f : Area → Area) (s : State) : (s.setArea n f).lc = s.lc := rfl
@[simp] theorem State.setArea_za (n : Nat) (f : Area → Area) (s : State) : (s.setArea n f).za = { s.za with areas := s.za.areas.modify n f } := rfl
@[simp] theorem State.setArea_du (n : Nat) (f : Area → Area) (s : State) : (s.setArea n f).du = s.du := rfl
@[simp] theorem State.setArea_cu (n : Nat) (f : Area → Area) (s : State) : (s.setArea n f).cu = s.cu := rfl
@[simp] theorem State.setArea_rl (n : Nat) (f : Area → Area) (s : State) : (s.setArea n f).rl = s.rl := rfl
@[simp] theorem State.setArea_mail (n : Nat) (f : Area → Area) (s : State) : (s.setArea n f).mail = s.mail := rfl
@[simp] theorem State.setArea_mem (n : Nat) (f : Area → Area) (s : State) : (s.setArea n f).mem = s.mem := rfl
@[simp] theorem State.setArea_pending (n : Nat) (f : Area → Area) (s : State) : (s.setArea n f).pending = s.pending := rfl

@[simp] theorem State.setDetector_xp (n : Nat) (f : Detector → Detector) (s : State) : (s.setDetector n f).xp = s.xp := rfl
@[simp] theorem State.setDetector_ou (n : Nat) (f : Detector → Detector) (s : State) : (s.setDetector n f).ou = s.ou := rfl
@[simp] theorem State.setDetector_ps (n : Nat) (f : Detector → Detector) (s : State) : (s.setDetector n f).ps = s.ps := rfl
@[simp] theorem State.setDetector_lc (n : Nat) (f : Detector → Detector) (s : State) : (s.setDetector n f).lc = s.lc := rfl
@[simp] theorem State.setDetector_za (n : Nat) (f : Detector → Detector) (s : State) : (s.setDetector n f).za = { s.za with detectors := s.za.detectors.modify n f } := rfl
@[simp] theorem State.setDetector_du (n : Nat) (f : Detector → Detector) (s : State) : (s.setDetector n f).du = s.du := rfl
@[simp] theorem State.setDetector_cu (n : Nat) (f : Detector → Detector) (s : State) : (s.setDetector n f).cu = s.cu := rfl
@[simp] theorem State.setDetector_rl (n : Nat) (f : Detector → Detector) (s : State) : (s.setDetector n f).rl = s.rl := rfl
@[simp] theorem State.setDetector_mail (n : Nat) (f : Detector → Detector) (s : State) : (s.setDetector n f).mail = s.mail := rfl
@[simp] theorem State.setDetector_mem (n : Nat) (f : Detector → Detector) (s : State) : (s.setDetector n f).mem = s.mem := rfl
@[simp] theorem State.setDetector_pending (n : Nat) (f : Detector → Detector) (s : State) : (s.setDetector n f).pending = s.pending := rfl

@[simp] theorem State.setDevice_xp (n : Nat) (f : Device → Device) (s : State) : (s.setDevice n f).xp = s.xp := rfl
@[simp] theorem State.setDevice_ou (n : Nat) (f : Device → Device) (s : State) : (s.setDevice n f).ou = s.ou := rfl
@[simp] theorem State.setDevice_ps (n : Nat) (f : Device → Device) (s : State) : (s.setDevice n f).ps = s.ps := rfl
@[simp] theorem State.setDevice_lc (n : Nat) (f : Device → Device) (s : State) : (s.setDevice n f).lc = { s.lc with devices := s.lc.devices.modify n f } := rfl
@[simp] theorem State.setDevice_za (n : Nat) (f : Device → Device) (s : State) : (s.setDevice n f).za = s.za := rfl
@[simp] theorem State.setDevice_du (n : Nat) (f : Device → Device) (s : State) : (s.setDevice n f).du = s.du := rfl
@[simp] theorem State.setDevice_cu (n : Nat) (f : Device → Device) (s : State) : (s.setDevice n f).cu = s.cu := rfl
@[simp] theorem State.setDevice_rl (n : Nat) (f : Device → Device) (s : State) : (s.setDevice n f).rl = s.rl := rfl
@[simp] theorem State.setDevice_mail (n : Nat) (f : Device → Device) (s : State) : (s.setDevice n f).mail = s.mail := rfl
@[simp] theorem State.setDevice_mem (n : Nat) (f : Device → Device) (s : State) : (s.setDevice n f).mem = s.mem := rfl
@[simp] theorem State.setDevice_pending (n : Nat) (f : Device → Device) (s : State) : (s.setDevice n f).pending = s.pending := rfl

@[simp] theorem State.setLoop_xp (n : Nat) (f : Loop → Loop) (s : State) : (s.setLoop n f).xp = s.xp := rfl
@[simp] theorem State.setLoop_ou (n : Nat) (f : Loop → Loop) (s : State) : (s.setLoop n f).ou = s.ou := rfl
@[simp] theorem State.setLoop_ps (n : Nat) (f : Loop → Loop) (s : State) : (s.setLoop n f).ps = s.ps := rfl
@[simp] theorem State.setLoop_lc (n : Nat) (f : Loop → Loop) (s : State) : (s.setLoop n f).lc = { s.lc with loops := s.lc.loops.modify n f } := rfl
@[simp] theorem State.setLoop_za (n : Nat) (f : Loop → Loop) (s : State) : (s.setLoop n f).za = s.za := rfl
@[simp] theorem State.setLoop_du (n : Nat) (f : Loop → Loop) (s : State) : (s.setLoop n f).du = s.du := rfl
@[simp] theorem State.setLoop_cu (n : Nat) (f : Loop → Loop) (s : State) : (s.setLoop n f).cu = s.cu := rfl
@[simp] theorem State.setLoop_rl (n : Nat) (f : Loop → Loop) (s : State) : (s.setLoop n f).rl = s.rl := rfl
@[simp] theorem State.setLoop_mail (n : Nat) (f : Loop → Loop) (s : State) : (s.setLoop n f).mail = s.mail := rfl
@[simp] theorem State.setLoop_mem (n : Nat) (f : Loop → Loop) (s : State) : (s.setLoop n f).mem = s.mem := rfl
@[simp] theorem State.setLoop_pending (n : Nat) (f : Loop → Loop) (s : State) : (s.setLoop n f).pending = s.pending := rfl

@[simp] theorem State.setDoor_xp (n : Nat) (f : Door → Door) (s : State) : (s.setDoor n f).xp = s.xp := rfl
@[simp] theorem State.setDoor_ou (n : Nat) (f : Door → Door) (s : State) : (s.setDoor n f).ou = s.ou := rfl
@[simp] theorem State.setDoor_ps (n : Nat) (f : Door → Door) (s : State) : (s.setDoor n f).ps = s.ps := rfl
@[simp] theorem State.setDoor_lc (n : Nat) (f : Door → Door) (s : State) : (s.setDoor n f).lc = s.lc := rfl
@[simp] theorem State.setDoor_za (n : Nat) (f : Door → Door) (s : State) : (s.setDoor n f).za = s.za := rfl
@[simp] theorem State.setDoor_du (n : Nat) (f : Door → Door) (s : State) : (s.setDoor n f).du = { s.du with doors := s.du.doors.modify n f } := rfl
@[simp] theorem State.setDoor_cu (n : Nat) (f : Door → Door) (s : State) : (s.setDoor n f).cu = s.cu := rfl
@[simp] theorem State.setDoor_rl (n : Nat) (f : Door → Door) (s : State) : (s.setDoor n f).rl = s.rl := rfl
@[simp] theorem State.setDoor_mail (n : Nat) (f : Door → Door) (s : State) : (s.setDoor n f).mail = s.mail := rfl
@[simp] theorem State.setDoor_mem (n : Nat) (f : Door → Door) (s : State) : (s.setDoor n f).mem = s.mem := rfl
@[simp] theorem State.setDoor_pending (n : Nat) (f : Door → Door) (s : State) : (s.setDoor n f).pending = s.pending := rfl

@[simp] theorem State.setSlot_xp (n : Nat) (f : Slot → Slot) (s : State) : (s.setSlot n f).xp = s.xp := rfl
@[simp] theorem State.setSlot_ou (n : Nat) (f : Slot → Slot) (s : State) : (s.setSlot n f).ou = { s.ou with slots := s.ou.slots.modify n f } := rfl
@[simp] theorem State.setSlot_ps (n : Nat) (f : Slot → Slot) (s : State) : (s.setSlot n f).ps = s.ps := rfl
@[simp] theorem State.setSlot_lc (n : Nat) (f : Slot → Slot) (s : State) : (s.setSlot n f).lc = s.lc := rfl
@[simp] theorem State.setSlot_za (n : Nat) (f : Slot → Slot) (s : State) : (s.setSlot n f).za = s.za := rfl
@[simp] theorem State.setSlot_du (n : Nat) (f : Slot → Slot) (s : State) : (s.setSlot n f).du = s.du := rfl
@[simp] theorem State.setSlot_cu (n : Nat) (f : Slot → Slot) (s : State) : (s.setSlot n f).cu = s.cu := rfl
@[simp] theorem State.setSlot_rl (n : Nat) (f : Slot → Slot) (s : State) : (s.setSlot n f).rl = s.rl := rfl
@[simp] theorem State.setSlot_mail (n : Nat) (f : Slot → Slot) (s : State) : (s.setSlot n f).mail = s.mail := rfl
@[simp] theorem State.setSlot_mem (n : Nat) (f : Slot → Slot) (s : State) : (s.setSlot n f).mem = s.mem := rfl
@[simp] theorem State.setSlot_pending (n : Nat) (f : Slot → Slot) (s : State) : (s.setSlot n f).pending = s.pending := rfl

@[simp] theorem State.tellRl_xp (ms : List ZaMessage) (s : State) : (s.tellRl ms).xp = s.xp := rfl
@[simp] theorem State.tellRl_ou (ms : List ZaMessage) (s : State) : (s.tellRl ms).ou = s.ou := rfl
@[simp] theorem State.tellRl_ps (ms : List ZaMessage) (s : State) : (s.tellRl ms).ps = s.ps := rfl
@[simp] theorem State.tellRl_lc (ms : List ZaMessage) (s : State) : (s.tellRl ms).lc = s.lc := rfl
@[simp] theorem State.tellRl_za (ms : List ZaMessage) (s : State) : (s.tellRl ms).za = s.za := rfl
@[simp] theorem State.tellRl_du (ms : List ZaMessage) (s : State) : (s.tellRl ms).du = s.du := rfl
@[simp] theorem State.tellRl_cu (ms : List ZaMessage) (s : State) : (s.tellRl ms).cu = s.cu := rfl
@[simp] theorem State.tellRl_rl (ms : List ZaMessage) (s : State) : (s.tellRl ms).rl = s.rl := rfl
@[simp] theorem State.tellRl_mem (ms : List ZaMessage) (s : State) : (s.tellRl ms).mem = s.mem := rfl
@[simp] theorem State.tellRl_pending (ms : List ZaMessage) (s : State) : (s.tellRl ms).pending = s.pending := rfl

@[simp] theorem State.tellDoor_xp (d : Nat) (c : DoorCond) (s : State) : (s.tellDoor d c).xp = s.xp := rfl
@[simp] theorem State.tellDoor_ou (d : Nat) (c : DoorCond) (s : State) : (s.tellDoor d c).ou = s.ou := rfl
@[simp] theorem State.tellDoor_ps (d : Nat) (c : DoorCond) (s : State) : (s.tellDoor d c).ps = s.ps := rfl
@[simp] theorem State.tellDoor_lc (d : Nat) (c : DoorCond) (s : State) : (s.tellDoor d c).lc = s.lc := rfl
@[simp] theorem State.tellDoor_za (d : Nat) (c : DoorCond) (s : State) : (s.tellDoor d c).za = s.za := rfl
@[simp] theorem State.tellDoor_du (d : Nat) (c : DoorCond) (s : State) : (s.tellDoor d c).du = s.du := rfl
@[simp] theorem State.tellDoor_cu (d : Nat) (c : DoorCond) (s : State) : (s.tellDoor d c).cu = s.cu := rfl
@[simp] theorem State.tellDoor_rl (d : Nat) (c : DoorCond) (s : State) : (s.tellDoor d c).rl = s.rl := rfl
@[simp] theorem State.tellDoor_mem (d : Nat) (c : DoorCond) (s : State) : (s.tellDoor d c).mem = s.mem := rfl
@[simp] theorem State.tellDoor_pending (d : Nat) (c : DoorCond) (s : State) : (s.tellDoor d c).pending = s.pending := rfl

@[simp] theorem State.endHeld_xp (w : HeldOwner) (c : Completion) (ws : List Word) (s : State) : (s.endHeld w c ws).xp = s.xp := rfl
@[simp] theorem State.endHeld_ps (w : HeldOwner) (c : Completion) (ws : List Word) (s : State) : (s.endHeld w c ws).ps = s.ps := rfl
@[simp] theorem State.endHeld_lc (w : HeldOwner) (c : Completion) (ws : List Word) (s : State) : (s.endHeld w c ws).lc = s.lc := rfl
@[simp] theorem State.endHeld_za (w : HeldOwner) (c : Completion) (ws : List Word) (s : State) : (s.endHeld w c ws).za = s.za := rfl
@[simp] theorem State.endHeld_du (w : HeldOwner) (c : Completion) (ws : List Word) (s : State) : (s.endHeld w c ws).du = s.du := rfl
@[simp] theorem State.endHeld_cu (w : HeldOwner) (c : Completion) (ws : List Word) (s : State) : (s.endHeld w c ws).cu = s.cu := rfl
@[simp] theorem State.endHeld_rl (w : HeldOwner) (c : Completion) (ws : List Word) (s : State) : (s.endHeld w c ws).rl = s.rl := rfl
@[simp] theorem State.endHeld_mail (w : HeldOwner) (c : Completion) (ws : List Word) (s : State) : (s.endHeld w c ws).mail = s.mail := rfl
@[simp] theorem State.endHeld_mem (w : HeldOwner) (c : Completion) (ws : List Word) (s : State) : (s.endHeld w c ws).mem = s.mem := rfl
@[simp] theorem State.endHeld_pending (w : HeldOwner) (c : Completion) (ws : List Word) (s : State) : (s.endHeld w c ws).pending = s.pending := rfl

/-! Asking XP for rewrites and for a cause changes XP alone. -/

@[simp] theorem State.rewrite_ou (f : Nat → Bool) (s : State) : (s.rewrite f).ou = s.ou := rfl
@[simp] theorem State.rewrite_ps (f : Nat → Bool) (s : State) : (s.rewrite f).ps = s.ps := rfl
@[simp] theorem State.rewrite_lc (f : Nat → Bool) (s : State) : (s.rewrite f).lc = s.lc := rfl
@[simp] theorem State.rewrite_za (f : Nat → Bool) (s : State) : (s.rewrite f).za = s.za := rfl
@[simp] theorem State.rewrite_du (f : Nat → Bool) (s : State) : (s.rewrite f).du = s.du := rfl
@[simp] theorem State.rewrite_cu (f : Nat → Bool) (s : State) : (s.rewrite f).cu = s.cu := rfl
@[simp] theorem State.rewrite_rl (f : Nat → Bool) (s : State) : (s.rewrite f).rl = s.rl := rfl
@[simp] theorem State.rewrite_mail (f : Nat → Bool) (s : State) : (s.rewrite f).mail = s.mail := rfl
@[simp] theorem State.rewrite_mem (f : Nat → Bool) (s : State) : (s.rewrite f).mem = s.mem := rfl
@[simp] theorem State.rewrite_pending (f : Nat → Bool) (s : State) : (s.rewrite f).pending = s.pending := rfl
@[simp] theorem State.rewrite_xp_seconds (f : Nat → Bool) (s : State) : (s.rewrite f).xp.seconds = s.xp.seconds := rfl
@[simp] theorem State.rewrite_xp_lineEnable (f : Nat → Bool) (s : State) : (s.rewrite f).xp.lineEnable = s.xp.lineEnable := rfl
@[simp] theorem State.rewrite_xp_mask (f : Nat → Bool) (s : State) : (s.rewrite f).xp.mask = s.xp.mask := rfl
@[simp] theorem State.rewrite_xp_attach (f : Nat → Bool) (s : State) : (s.rewrite f).xp.attach = s.xp.attach := rfl
@[simp] theorem State.rewrite_xp_presenceEnd (f : Nat → Bool) (s : State) : (s.rewrite f).xp.presenceEnd = s.xp.presenceEnd := rfl
@[simp] theorem State.rewrite_xp_lapse (f : Nat → Bool) (s : State) : (s.rewrite f).xp.lapse = s.xp.lapse := rfl
@[simp] theorem State.rewrite_xp_capture (f : Nat → Bool) (s : State) : (s.rewrite f).xp.capture = s.xp.capture := rfl
@[simp] theorem State.rewrite_xp_captureCount (f : Nat → Bool) (s : State) : (s.rewrite f).xp.captureCount = s.xp.captureCount := rfl
@[simp] theorem State.rewrite_xp_notice (f : Nat → Bool) (s : State) : (s.rewrite f).xp.notice = s.xp.notice := rfl
@[simp] theorem State.rewrite_xp_siteCount (f : Nat → Bool) (s : State) : (s.rewrite f).xp.siteCount = s.xp.siteCount := rfl
@[simp] theorem State.rewrite_xp_planCount (f : Nat → Bool) (s : State) : (s.rewrite f).xp.planCount = s.xp.planCount := rfl
@[simp] theorem State.raise_ou (b : Bool) (i : Nat) (s : State) : (s.raise b i).ou = s.ou := rfl
@[simp] theorem State.raise_ps (b : Bool) (i : Nat) (s : State) : (s.raise b i).ps = s.ps := rfl
@[simp] theorem State.raise_lc (b : Bool) (i : Nat) (s : State) : (s.raise b i).lc = s.lc := rfl
@[simp] theorem State.raise_za (b : Bool) (i : Nat) (s : State) : (s.raise b i).za = s.za := rfl
@[simp] theorem State.raise_du (b : Bool) (i : Nat) (s : State) : (s.raise b i).du = s.du := rfl
@[simp] theorem State.raise_cu (b : Bool) (i : Nat) (s : State) : (s.raise b i).cu = s.cu := rfl
@[simp] theorem State.raise_rl (b : Bool) (i : Nat) (s : State) : (s.raise b i).rl = s.rl := rfl
@[simp] theorem State.raise_mail (b : Bool) (i : Nat) (s : State) : (s.raise b i).mail = s.mail := rfl
@[simp] theorem State.raise_mem (b : Bool) (i : Nat) (s : State) : (s.raise b i).mem = s.mem := rfl
@[simp] theorem State.raise_pending (b : Bool) (i : Nat) (s : State) : (s.raise b i).pending = s.pending := rfl
@[simp] theorem State.raise_xp_seconds (b : Bool) (i : Nat) (s : State) : (s.raise b i).xp.seconds = s.xp.seconds := rfl
@[simp] theorem State.raise_xp_lineEnable (b : Bool) (i : Nat) (s : State) : (s.raise b i).xp.lineEnable = s.xp.lineEnable := rfl
@[simp] theorem State.raise_xp_mask (b : Bool) (i : Nat) (s : State) : (s.raise b i).xp.mask = s.xp.mask := rfl
@[simp] theorem State.raise_xp_attach (b : Bool) (i : Nat) (s : State) : (s.raise b i).xp.attach = s.xp.attach := rfl
@[simp] theorem State.raise_xp_presenceEnd (b : Bool) (i : Nat) (s : State) : (s.raise b i).xp.presenceEnd = s.xp.presenceEnd := rfl
@[simp] theorem State.raise_xp_lapse (b : Bool) (i : Nat) (s : State) : (s.raise b i).xp.lapse = s.xp.lapse := rfl
@[simp] theorem State.raise_xp_capture (b : Bool) (i : Nat) (s : State) : (s.raise b i).xp.capture = s.xp.capture := rfl
@[simp] theorem State.raise_xp_captureCount (b : Bool) (i : Nat) (s : State) : (s.raise b i).xp.captureCount = s.xp.captureCount := rfl
@[simp] theorem State.raise_xp_counts (b : Bool) (i : Nat) (s : State) : (s.raise b i).xp.counts = s.xp.counts := rfl
@[simp] theorem State.raise_xp_summary (b : Bool) (i : Nat) (s : State) : (s.raise b i).xp.summary = s.xp.summary := rfl
@[simp] theorem State.raise_xp_siteCount (b : Bool) (i : Nat) (s : State) : (s.raise b i).xp.siteCount = s.xp.siteCount := rfl
@[simp] theorem State.raise_xp_planCount (b : Bool) (i : Nat) (s : State) : (s.raise b i).xp.planCount = s.xp.planCount := rfl
@[simp] theorem State.raise_xp_notice (b : Bool) (i : Nat) (s : State) : (s.raise b i).xp.notice = s.xp.notice ||| causeBit b i := rfl

/-! Publishing changes XP alone. -/

@[simp] theorem publish_ou (s t : State) : (publish s t).ou = t.ou := rfl
@[simp] theorem publish_ps (s t : State) : (publish s t).ps = t.ps := rfl
@[simp] theorem publish_lc (s t : State) : (publish s t).lc = t.lc := rfl
@[simp] theorem publish_za (s t : State) : (publish s t).za = t.za := rfl
@[simp] theorem publish_du (s t : State) : (publish s t).du = t.du := rfl
@[simp] theorem publish_cu (s t : State) : (publish s t).cu = t.cu := rfl
@[simp] theorem publish_rl (s t : State) : (publish s t).rl = t.rl := rfl
@[simp] theorem publish_mail (s t : State) : (publish s t).mail = t.mail := rfl
@[simp] theorem publish_mem (s t : State) : (publish s t).mem = t.mem := rfl
@[simp] theorem publish_pending (s t : State) : (publish s t).pending = t.pending := rfl
@[simp] theorem publish_xp_seconds (s t : State) : (publish s t).xp.seconds = t.xp.seconds := rfl
@[simp] theorem publish_xp_lineEnable (s t : State) : (publish s t).xp.lineEnable = t.xp.lineEnable := rfl
@[simp] theorem publish_xp_mask (s t : State) : (publish s t).xp.mask = t.xp.mask := rfl
@[simp] theorem publish_xp_attach (s t : State) : (publish s t).xp.attach = t.xp.attach := rfl
@[simp] theorem publish_xp_presenceEnd (s t : State) : (publish s t).xp.presenceEnd = t.xp.presenceEnd := rfl
@[simp] theorem publish_xp_lapse (s t : State) : (publish s t).xp.lapse = t.xp.lapse := rfl
@[simp] theorem publish_xp_capture (s t : State) : (publish s t).xp.capture = t.xp.capture := rfl
@[simp] theorem publish_xp_captureCount (s t : State) : (publish s t).xp.captureCount = t.xp.captureCount := rfl

/-- What a command answers when it publishes its effect. -/
theorem done_eq (s t : State) : done s t = .next (publish s t) := rfl

/-- What a command answers when its event cannot occur. -/
theorem nothing_eq (s : State) : nothing s = .next s := rfl

end Sys2Proof.Machine
end

