-- ==== Sys2Proof/Laws/Table.lean ====
section
/-!
SUPPORT. Reading a table after each of its operations.
-/

namespace Sys2Proof.Machine

@[simp] theorem Table.list_ofList {α : Type} {lo n : Nat} (xs : List α) (h : xs.length = n) :
    (Table.ofList (lo := lo) xs h).list = xs := rfl

/-- A number that names a record of the table. -/
abbrev Table.holds (lo n i : Nat) : Prop := lo ≤ i ∧ i < lo + n

theorem Table.get_of_lt {α : Type} {lo n : Nat} [Inhabited α] (t : Table α lo n) {i : Nat} (h : Table.holds lo n i) :
    t.get i = t.list[i - lo]'(by rw [t.list_length]; omega) := by
  have hl : i - lo < t.list.length := by rw [t.list_length]; omega
  simp [Table.get, Nat.not_lt.mpr h.1, List.getD_eq_getElem?_getD, hl]

/-- A record just set reads as set. -/
@[simp] theorem Table.get_set_same {α : Type} {lo n : Nat} [Inhabited α] (t : Table α lo n) {i : Nat} (x : α)
    (h : Table.holds lo n i) : (t.set i x).get i = x := by
  have hl : i - lo < t.list.length := by rw [t.list_length]; omega
  simp [Table.get, Table.set, Nat.not_lt.mpr h.1, List.getD_eq_getElem?_getD, hl]

/-- Setting one record leaves every other as it was. -/
theorem Table.get_set_other {α : Type} {lo n : Nat} [Inhabited α] (t : Table α lo n) {i j : Nat} (x : α) (h : j ≠ i) :
    (t.set i x).get j = t.get j := by
  unfold Table.get Table.set
  by_cases hj : j < lo
  · simp [hj]
  · by_cases hi : i < lo
    · simp [hi]
    · have : i - lo ≠ j - lo := by omega
      simp [hi, hj, List.getD_eq_getElem?_getD, this]

/-- A record just changed. -/
@[simp] theorem Table.get_modify_same {α : Type} {lo n : Nat} [Inhabited α] (t : Table α lo n) {i : Nat} (f : α → α)
    (h : Table.holds lo n i) : (t.modify i f).get i = f (t.get i) := Table.get_set_same t _ h

/-- Changing one record leaves every other as it was. -/
theorem Table.get_modify_other {α : Type} {lo n : Nat} [Inhabited α] (t : Table α lo n) {i j : Nat} (f : α → α) (h : j ≠ i) :
    (t.modify i f).get j = t.get j := Table.get_set_other t _ h

theorem mapNumbered_getElem? {α β : Type} (f : Nat → α → β) (k : Nat) (xs : List α) (i : Nat) :
    (mapNumbered f k xs)[i]? = (xs[i]?).map (f (k + i)) := by
  induction xs generalizing k i with
  | nil => simp [mapNumbered]
  | cons x xs ih =>
    cases i with
    | zero => simp [mapNumbered]
    | succ i => simp [mapNumbered, ih, Nat.add_assoc, Nat.add_comm 1]

/-- Every record at once. -/
@[simp] theorem Table.get_map {α β : Type} {lo n : Nat} [Inhabited α] [Inhabited β] (t : Table α lo n) (f : Nat → α → β) {i : Nat}
    (h : Table.holds lo n i) : (t.map f).get i = f i (t.get i) := by
  have hl : i - lo < t.list.length := by rw [t.list_length]; omega
  have hi : lo + (i - lo) = i := by omega
  simp [Table.get, Table.map, Nat.not_lt.mpr h.1, List.getD_eq_getElem?_getD, mapNumbered_getElem?, hl, hi]

/-- A table filled with one record. -/
@[simp] theorem Table.get_fill {α : Type} {lo n : Nat} [Inhabited α] (x : α) {i : Nat} (h : Table.holds lo n i) :
    (Table.fill x : Table α lo n).get i = x := by
  have hi : i - lo < n := by omega
  simp [Table.get, Table.fill, Nat.not_lt.mpr h.1, List.getD_eq_getElem?_getD, hi]

/-- A number that names no record reads the default. -/
theorem Table.get_outside {α : Type} {lo n : Nat} [Inhabited α] (t : Table α lo n) {i : Nat} (h : ¬ Table.holds lo n i) :
    t.get i = default := by
  unfold Table.get
  by_cases hi : i < lo
  · simp [hi]
  · have hl : t.list.length ≤ i - lo := by rw [t.list_length]; omega
    simp [hi, List.getD_eq_getElem?_getD, hl]

/-- Setting a record that no number names changes nothing. -/
theorem Table.set_outside {α : Type} {lo n : Nat} (t : Table α lo n) {i : Nat} (x : α) (h : ¬ Table.holds lo n i) :
    t.set i x = t := by
  unfold Table.set
  by_cases hi : i < lo
  · simp [hi]
  · have hl : t.list.length ≤ i - lo := by rw [t.list_length]; omega
    simp only [hi, if_false, List.set_eq_of_length_le hl]
    rfl

/-- Two tables with the same records are the same table. -/
theorem Table.ext_get {α : Type} {lo n : Nat} [Inhabited α] {t u : Table α lo n}
    (h : ∀ i, Table.holds lo n i → t.get i = u.get i) : t = u := by
  have hl : t.list = u.list := by
    apply List.ext_getElem
    · rw [t.list_length, u.list_length]
    · intro i h1 h2
      have hi : i < n := by rw [t.list_length] at h1; exact h1
      have := h (lo + i) ⟨by omega, by omega⟩
      rw [Table.get_of_lt t ⟨by omega, by omega⟩, Table.get_of_lt u ⟨by omega, by omega⟩] at this
      have e : lo + i - lo = i := by omega
      simpa [e] using this
  cases t with | mk r => cases u with | mk r' =>
  simp only [Table.list] at hl
  congr 1
  exact Vector.toArray_inj.mp (Array.toList_inj.mp hl)

end Sys2Proof.Machine
end

