-- ==== Sys2Proof/Laws/Keeps.lean ====
section
/-!
SUPPORT. What each shared operation leaves unchanged, said once for each: a proof about a command cites these and unfolds none of the operations.
-/

namespace Sys2Proof.Machine

/-! ### Keeping blocks -/

theorem Keeps.refl (bs : List Block) (s : State) : Keeps bs s s := by
  intro b _
  cases b <;> rfl

theorem Block.same_trans {b : Block} {s t u : State} (h : b.same s t) (k : b.same t u) : b.same s u := by
  cases b <;> exact Eq.trans k h

theorem Keeps.trans {bs : List Block} {s t u : State} (h : Keeps bs s t) (k : Keeps bs t u) : Keeps bs s u :=
  fun b hb => Block.same_trans (h b hb) (k b hb)

theorem Keeps.mono {bs cs : List Block} {s t : State} (h : Keeps bs s t) (sub : ∀ b ∈ cs, b ∈ bs) : Keeps cs s t :=
  fun b hb => h b (sub b hb)

/-- A fold over steps that each keep some blocks keeps them. -/
theorem Keeps.foldl {α : Type} {bs : List Block} {f : State → α → State} (h : ∀ s a, Keeps bs s (f s a)) (as : List α) (s : State) :
    Keeps bs s (as.foldl f s) := by
  induction as generalizing s with
  | nil => exact Keeps.refl bs s
  | cons a as ih => exact (h s a).trans (ih (f s a))

/-- A choice between two operations that each keep some blocks. -/
theorem Keeps.ite {bs : List Block} {c : Prop} [Decidable c] {s t u : State} (h : Keeps bs s t) (k : Keeps bs s u) :
    Keeps bs s (if c then t else u) := by
  split
  · exact h
  · exact k

/-! ### Keeping XP's registers -/

theorem PortKept.refl (s : State) : PortKept s s := by
  simp [PortKept]

theorem PortKept.trans {s t u : State} (h : PortKept s t) (k : PortKept t u) : PortKept s u := by
  obtain ⟨h1, h2, h3, h4, h5, h6, h7, h8⟩ := h
  obtain ⟨k1, k2, k3, k4, k5, k6, k7, k8⟩ := k
  exact ⟨k1.trans h1, k2.trans h2, k3.trans h3, k4.trans h4, k5.trans h5, k6.trans h6, k7.trans h7, k8.trans h8⟩

/-- An operation that leaves XP as it is keeps XP's registers. -/
theorem PortKept.of_keeps {bs : List Block} {s t : State} (h : Keeps bs s t) (hx : .xp ∈ bs) : PortKept s t := by
  have hxp : t.xp = s.xp := h .xp hx
  simp [PortKept, hxp]

theorem PortKept.foldl {α : Type} {f : State → α → State} (h : ∀ s a, PortKept s (f s a)) (as : List α) (s : State) :
    PortKept s (as.foldl f s) := by
  induction as generalizing s with
  | nil => exact PortKept.refl s
  | cons a as ih => exact (h s a).trans (ih (f s a))

theorem PortKept.ite {c : Prop} [Decidable c] {s t u : State} (h : PortKept s t) (k : PortKept s u) : PortKept s (if c then t else u) := by
  split
  · exact h
  · exact k

/-! ### One block at a time -/

theorem State.keeps_onXp (f : Xp → Xp) (s : State) : Keeps [.ou, .ps, .lc, .za, .du, .cu, .rl, .mail, .mem, .pending] s (s.onXp f) := by
  simp [Keeps, Block.same]

theorem State.keeps_onOu (f : Ou → Ou) (s : State) : Keeps [.xp, .ps, .lc, .za, .du, .cu, .rl, .mail, .mem, .pending] s (s.onOu f) := by
  simp [Keeps, Block.same]

theorem State.keeps_onPs (f : Ps → Ps) (s : State) : Keeps [.xp, .ou, .lc, .za, .du, .cu, .rl, .mail, .mem, .pending] s (s.onPs f) := by
  simp [Keeps, Block.same]

theorem State.keeps_onLc (f : Lc → Lc) (s : State) : Keeps [.xp, .ou, .ps, .za, .du, .cu, .rl, .mail, .mem, .pending] s (s.onLc f) := by
  simp [Keeps, Block.same]

theorem State.keeps_onZa (f : Za → Za) (s : State) : Keeps [.xp, .ou, .ps, .lc, .du, .cu, .rl, .mail, .mem, .pending] s (s.onZa f) := by
  simp [Keeps, Block.same]

theorem State.keeps_onDu (f : Du → Du) (s : State) : Keeps [.xp, .ou, .ps, .lc, .za, .cu, .rl, .mail, .mem, .pending] s (s.onDu f) := by
  simp [Keeps, Block.same]

theorem State.keeps_onCu (f : Cu → Cu) (s : State) : Keeps [.xp, .ou, .ps, .lc, .za, .du, .rl, .mail, .mem, .pending] s (s.onCu f) := by
  simp [Keeps, Block.same]

theorem State.keeps_onRl (f : Rl → Rl) (s : State) : Keeps [.xp, .ou, .ps, .lc, .za, .du, .cu, .mail, .mem, .pending] s (s.onRl f) := by
  simp [Keeps, Block.same]

theorem State.keeps_onMail (f : Mail → Mail) (s : State) : Keeps [.xp, .ou, .ps, .lc, .za, .du, .cu, .rl, .mem, .pending] s (s.onMail f) := by
  simp [Keeps, Block.same]

theorem State.keeps_onMem (f : Memory → Memory) (s : State) :
    Keeps [.xp, .ou, .ps, .lc, .za, .du, .cu, .rl, .mail, .pending] s (s.onMem f) := by
  simp [Keeps, Block.same]

/-! ### The port's part of a command (R166, R167, R169) -/

/-- Publishing touches XP alone, and of XP only the change counts, the summaries and NOTICE. -/
theorem keeps_publish (s t : State) : Keeps [.ou, .ps, .lc, .za, .du, .cu, .rl, .mail, .mem, .pending] t (publish s t) := State.keeps_onXp _ t

theorem portKept_publish (s t : State) : PortKept t (publish s t) := by
  simp [PortKept]

theorem State.keeps_rewrite (f : Nat → Bool) (s : State) : Keeps [.ou, .ps, .lc, .za, .du, .cu, .rl, .mail, .mem, .pending] s (s.rewrite f) :=
  State.keeps_onXp _ s

theorem State.portKept_rewrite (f : Nat → Bool) (s : State) : PortKept s (s.rewrite f) := by
  simp [PortKept]

theorem State.keeps_raise (b : Bool) (i : Nat) (s : State) : Keeps [.ou, .ps, .lc, .za, .du, .cu, .rl, .mail, .mem, .pending] s (s.raise b i) :=
  State.keeps_onXp _ s

theorem State.portKept_raise (b : Bool) (i : Nat) (s : State) : PortKept s (s.raise b i) := by
  simp [PortKept]

/-- What the rewrites that a unit asks for do to the change counts and summaries (R166, R167). -/
theorem State.rewrite_counts (f : Nat → Bool) (s : State) {k : Nat} (h : k < 853) :
    (s.rewrite f).xp.counts.get k = advance (f k) (s.xp.counts.get k) := by
  simp [State.rewrite, Xp.rewrite, Table.holds, h]

theorem State.rewrite_summary (f : Nat → Bool) (s : State) {i : Nat} (h : i < 27) :
    (s.rewrite f).xp.summary.get i = s.xp.summary.get i ||| summaryBits f i := by
  simp [State.rewrite, Xp.rewrite, Table.holds, h]

/-- Showing the doors touches XP alone: their records' change counts, the summaries and NOTICE.DOOR (R56). -/
theorem State.keeps_showDoors (s t : State) : Keeps [.ou, .ps, .lc, .za, .du, .cu, .rl, .mail, .mem, .pending] t (s.showDoors t) :=
  (State.keeps_rewrite _ t).trans (State.keeps_raise _ _ _)

theorem State.portKept_showDoors (s t : State) : PortKept t (s.showDoors t) :=
  (State.portKept_rewrite _ t).trans (State.portKept_raise _ _ _)

theorem State.showDoors_counts (s t : State) {k : Nat} (h : k < 853) :
    (s.showDoors t).xp.counts.get k = advance (528 ≤ k && k < 592 && rewritten s t k) (t.xp.counts.get k) :=
  State.rewrite_counts _ t h

theorem State.showDoors_notice (s t : State) : (s.showDoors t).xp.notice = t.xp.notice ||| causeBit (doorChanged s t) 2 := rfl

/-- Showing the calls touches XP alone: the change counts of call and source records, the summaries and NOTICE.CALL (R85, R106). -/
theorem State.keeps_showCalls (s t : State) : Keeps [.ou, .ps, .lc, .za, .du, .cu, .rl, .mail, .mem, .pending] t (s.showCalls t) :=
  (State.keeps_rewrite _ t).trans (State.keeps_raise _ _ _)

theorem State.portKept_showCalls (s t : State) : PortKept t (s.showCalls t) :=
  (State.portKept_rewrite _ t).trans (State.portKept_raise _ _ _)

theorem State.showCalls_counts (s t : State) {k : Nat} (h : k < 853) :
    (s.showCalls t).xp.counts.get k = advance (592 ≤ k && k < 768 && s.recordBody k ≠ t.recordBody k) (t.xp.counts.get k) :=
  State.rewrite_counts _ t h

theorem State.showCalls_summary (s t : State) {i : Nat} (h : i < 27) :
    (s.showCalls t).xp.summary.get i =
      t.xp.summary.get i ||| summaryBits (fun k => 592 ≤ k && k < 768 && s.recordBody k ≠ t.recordBody k) i :=
  State.rewrite_summary _ t h

theorem State.showCalls_notice (s t : State) : (s.showCalls t).xp.notice = t.xp.notice ||| causeBit (callChanged s t) 3 := rfl

/-- A count of detectors in ALARM that fits its byte is shown as it is (09). -/
theorem alarmCountByte_of_le {n : Nat} (h : n ≤ 255) : alarmCountByte n = byteOf n := if_pos h

/-- A record whose zone's count has been rewritten is rewritten, unless it was within the command (R6). -/
theorem rewritten_of_recounted {s t : State} {k : Nat} (h : k < 120) (hc : s.xp.counts.get k = t.xp.counts.get k)
    (hr : recounted s t (k + 1) = true) : rewritten s t k = true := by
  have : k < Config.liveRecords := Nat.lt_trans h (by decide)
  simp [rewritten, this, hc, h, hr]

/-- The causes of NOTICE after a command: those set before, and those its changes raise (R169). -/
theorem publish_notice (s t : State) : (publish s t).xp.notice = t.xp.notice ||| raisedCauses s t := rfl

/-- A change count after a command (R166). -/
theorem publish_counts (s t : State) {k : Nat} (h : k < 853) :
    (publish s t).xp.counts.get k = advance (rewritten s t k) (t.xp.counts.get k) := by
  simp [publish, Xp.rewrite, Table.holds, h]

/-- A change summary word after a command (R167). -/
theorem publish_summary (s t : State) {i : Nat} (h : i < 27) :
    (publish s t).xp.summary.get i = t.xp.summary.get i ||| summaryBits (rewritten s t) i := by
  simp [publish, Xp.rewrite, Table.holds, h]

/-! ### Outputs, messages and completions -/

theorem State.keeps_tellRl (ms : List ZaMessage) (s : State) :
    Keeps [.xp, .ou, .ps, .lc, .za, .du, .cu, .rl, .mem, .pending] s (s.tellRl ms) := State.keeps_onMail _ s

theorem State.keeps_tellDoor (d : Nat) (c : DoorCond) (s : State) :
    Keeps [.xp, .ou, .ps, .lc, .za, .du, .cu, .rl, .mem, .pending] s (s.tellDoor d c) := State.keeps_onMail _ s

theorem State.keeps_endHeld (owner : HeldOwner) (code : Completion) (ws : List Word) (s : State) :
    Keeps [.xp, .ps, .lc, .za, .du, .cu, .rl, .mail, .mem, .pending] s (s.endHeld owner code ws) := State.keeps_onOu _ s

/-- Handing an output changes no loop. -/
theorem Lc.hand_loops (i : Nat) (v : BitVec 4) (lc : Lc) : (lc.hand i v).loops = lc.loops := rfl

/-- Handing an output changes a device's outputs alone (R50). -/
theorem Lc.hand_device (i j : Nat) (v : BitVec 4) (lc : Lc) :
    { (lc.hand i v).devices.get j with handed := none, output := none } =
      { lc.devices.get j with handed := none, output := none } := by
  by_cases h : j = i
  · subst h
    by_cases hj : Table.holds 1 384 j
    · simp only [Lc.hand, Table.get_modify_same lc.devices _ hj]
    · simp only [Lc.hand, Table.modify, Table.get, Table.set, Table.holds] at *
      by_cases h1 : j < 1
      · simp [h1]
      · have : ¬ j - 1 < lc.devices.list.length := by rw [Table.list_length]; omega
        simp [h1, List.getD_eq_getElem?_getD, this]
  · simp [Lc.hand, Table.get_modify_other _ _ h]

/-- The device that is handed an output holds it (R50). -/
theorem Lc.hand_get_same {i : Nat} (v : BitVec 4) (lc : Lc) (h : 1 ≤ i ∧ i ≤ 384) :
    (lc.hand i v).devices.get i = (lc.devices.get i).holding v := by
  have hi : Table.holds 1 384 i := ⟨h.1, by omega⟩
  simp only [Lc.hand, Table.get_modify_same lc.devices _ hi]
  rfl

/-- Every other device stays (R50). -/
theorem Lc.hand_get_other {i j : Nat} (v : BitVec 4) (lc : Lc) (h : j ≠ i) : (lc.hand i v).devices.get j = lc.devices.get j := by
  simp [Lc.hand, Table.get_modify_other _ _ h]

@[simp] theorem Device.bare_holding (x : Device) (v : BitVec 4) : (x.holding v).bare = x.bare := rfl

/-- Of two outputs handed one after the other, the later one is held (R50). -/
theorem Device.holding_holding (x : Device) (v w : BitVec 4) : (x.holding v).holding w = x.holding w := by
  unfold Device.holding
  split <;> rfl

theorem OutputsMoved.refl (s : State) (owned : Nat → Prop) : OutputsMoved s s owned := ⟨rfl, fun _ _ _ => ⟨rfl, fun _ => rfl⟩⟩

theorem OutputsMoved.trans {s t u : State} {owned : Nat → Prop} (h : OutputsMoved s t owned) (k : OutputsMoved t u owned) :
    OutputsMoved s u owned :=
  ⟨k.1.trans h.1, fun i a b => ⟨(k.2 i a b).1.trans (h.2 i a b).1, fun n => ((k.2 i a b).2 n).trans ((h.2 i a b).2 n)⟩⟩

theorem OutputsMoved.mono {s t : State} {p q : Nat → Prop} (h : OutputsMoved s t p) (sub : ∀ i, p i → q i) : OutputsMoved s t q :=
  ⟨h.1, fun i a b => ⟨(h.2 i a b).1, fun n => (h.2 i a b).2 (fun m => n (sub i m))⟩⟩

/-- An operation that leaves the loop controllers as they are moves no output. -/
theorem OutputsMoved.of_keeps {bs : List Block} {s t : State} {owned : Nat → Prop} (h : Keeps bs s t) (hl : .lc ∈ bs) :
    OutputsMoved s t owned := by
  have hlc : t.lc = s.lc := h .lc hl
  simp [OutputsMoved, State.device, hlc]

/-! ### Completing a slot (R162, R163) -/

theorem Ou.complete_slot_same {n : Nat} (code : Completion) (ws : List Word) (ou : Ou) (h : isSlot n = true) :
    (ou.complete n code ws).slots.get n = (ou.slots.get n).complete code ws := by
  simp only [isSlot, decide_eq_true_eq] at h
  simp [Ou.complete, Table.holds, h]

theorem Ou.complete_slot_other {n m : Nat} (code : Completion) (ws : List Word) (ou : Ou) (h : m ≠ n) :
    (ou.complete n code ws).slots.get m = ou.slots.get m := by
  simp [Ou.complete, Table.get_modify_other _ _ h]

/-- The result words of a completion, every unused one 0 (R162). -/
theorem resultWords_get (ws : List Word) {k : Nat} (h : 1 ≤ k ∧ k ≤ 6) : (resultWords ws).get k = ws.getD (k - 1) 0 := by
  have : Table.holds 1 6 k := ⟨h.1, by omega⟩
  unfold resultWords
  rw [Table.get_map _ _ this]

/-- A completed slot carries its completion and nothing else has changed (R162). -/
theorem Slot.completedAs_complete (code : Completion) (ws : List Word) (x : Slot) : x.CompletedAs (x.complete code ws) code ws := by
  refine ⟨rfl, rfl, rfl, ?_, rfl, rfl, rfl, rfl, rfl⟩
  intro k h1 h6
  exact resultWords_get ws ⟨h1, h6⟩

theorem Ou.endWork_some {n : Nat} {o : Order} {tag : Half} (code : Completion) (ws : List Word) (ou : Ou) :
    ou.endWork { slot := some n, order := o, tag := tag } code ws = { ou.complete n code ws with working := none } := rfl

theorem Ou.holdWork_some {n : Nat} {o : Order} {tag : Half} (owner : HeldOwner) (ou : Ou) :
    ou.holdWork { slot := some n, order := o, tag := tag } owner =
      { ou with held := ou.held ++ [{ slot := n, owner := owner }], working := none } := rfl

/-- Ending a held operation leaves the commit queue and the order being worked on alone (R163). -/
theorem Ou.endHeld_queue (owner : HeldOwner) (code : Completion) (ws : List Word) (ou : Ou) :
    (ou.endHeld owner code ws).queue = ou.queue ∧ (ou.endHeld owner code ws).working = ou.working := by
  unfold Ou.endHeld
  split <;> exact ⟨rfl, rfl⟩

/-! ### An order being worked on -/

/-- An order that OU works on is carried out by the meaning that knows it. -/
theorem workOn_of_works {s : State} {n : Nat} {o : Order} {act : Order → Option (State → Ending)} {f : State → Ending}
    (h : Works s n o) (ha : act o = some f) : ∃ w, s.ou.working = some w ∧ w.slot = some n ∧ workOn act s = done s ((f s).apply w) := by
  obtain ⟨_, _, ⟨tag, hw⟩, ho⟩ := h
  refine ⟨_, hw, rfl, ?_⟩
  simp [workOn, hw, ha, ho]

/-- An immediate order has ended as R162 says, the queue, the held orders and every other slot as the owner left them. -/
theorem works_completes {s : State} {n : Nat} {o : Order} {act : Order → Option (State → Ending)} {f : State → Ending} {u : State}
    {code : Completion} {ws : List Word} (h : Works s n o) (ha : act o = some f) (hf : f s = .completes u code ws) :
    ∃ w, s.ou.working = some w ∧ w.slot = some n ∧ workOn act s = .next (publish s (u.onOu (Ou.endWork w code ws))) := by
  obtain ⟨w, hw, hn, hx⟩ := workOn_of_works h ha
  exact ⟨w, hw, hn, by rw [hx, hf]; rfl⟩

/-! ### The call unit: it changes CU, and through the indicators LC -/

theorem State.keeps_refreshHelp (s : State) (h : Nat) : Keeps [.xp, .ou, .ps, .za, .du, .rl, .mail, .mem, .pending] s (s.refreshHelp h) := by
  unfold State.refreshHelp
  split
  · simp [Keeps, Block.same]
  · exact Keeps.refl _ s

theorem State.keeps_refreshHelps (s : State) : Keeps [.xp, .ou, .ps, .za, .du, .rl, .mail, .mem, .pending] s s.refreshHelps :=
  Keeps.foldl State.keeps_refreshHelp _ s

theorem State.keeps_settleCalls (s : State) : Keeps [.xp, .ou, .ps, .za, .du, .rl, .mail, .mem, .pending] s s.settleCalls :=
  ((State.keeps_onCu _ s).mono (by simp)).trans (State.keeps_refreshHelps _)

theorem State.keeps_alert (d : Nat) (reason : Reason) (level : Nat) (s : State) :
    Keeps [.xp, .ou, .ps, .za, .du, .rl, .mail, .mem, .pending] s (s.alert d reason level) :=
  ((State.keeps_onCu _ s).mono (by simp)).trans (State.keeps_settleCalls _)

theorem State.keeps_cancelKey (h : Nat) (s : State) :
    Keeps [.xp, .ou, .ps, .lc, .za, .du, .rl, .mail, .mem, .pending] s (s.cancelKey h) := by
  unfold State.cancelKey
  split <;> exact State.keeps_onCu _ s

theorem State.keeps_helpReport (h : Nat) (value : Half) (s : State) :
    Keeps [.xp, .ou, .ps, .za, .du, .rl, .mail, .mem, .pending] s (s.helpReport h value) := by
  have cancels : ∀ (u : State) (b : Bool), Keeps [.xp, .ou, .ps, .za, .du, .rl, .mail, .mem, .pending] u (if b then u.cancelKey h else u) :=
    fun u b => Keeps.ite ((State.keeps_cancelKey h u).mono (by simp)) (Keeps.refl _ u)
  have presses : ∀ (u : State) (b : Bool) (f : Cu → Cu),
      Keeps [.xp, .ou, .ps, .za, .du, .rl, .mail, .mem, .pending] u (if b then u.onCu f else u) :=
    fun u b f => Keeps.ite ((State.keeps_onCu f u).mono (by simp)) (Keeps.refl _ u)
  exact ((((State.keeps_onCu _ s).mono (by simp)).trans (cancels _ _)).trans (presses _ _ _)).trans (State.keeps_settleCalls _)

theorem State.keeps_callsAlarm (z : Nat) (entered : Bool) (s : State) :
    Keeps [.xp, .ou, .ps, .za, .du, .rl, .mail, .mem, .pending] s (s.callsAlarm z entered) := by
  unfold State.callsAlarm
  split
  · exact ((State.keeps_onCu _ s).mono (by simp)).trans (State.keeps_settleCalls _)
  · exact (State.keeps_onCu _ s).mono (by simp)

theorem State.keeps_callsStranded (s : State) (z : Nat) (stranded : Bool) :
    Keeps [.xp, .ou, .ps, .za, .du, .rl, .mail, .mem, .pending] s (s.callsStranded z stranded) := by
  unfold State.callsStranded
  split
  · exact ((State.keeps_onCu _ s).mono (by simp)).trans (State.keeps_settleCalls _)
  · exact (State.keeps_onCu _ s).mono (by simp)

/-! ### The door unit: it changes DU, CU, LC and the messages -/

theorem State.keeps_afterDoor (d : Nat) (was now : Door) (force : Bool) (s : State) :
    Keeps [.xp, .ou, .ps, .za, .du, .cu, .rl, .mem, .pending] s (s.afterDoor d was now force) := by
  have hands : ∀ (u : State) (b : Bool), Keeps [.xp, .ou, .ps, .za, .du, .cu, .rl, .mem, .pending] u (if b then u.handDoor d else u) :=
    fun u b => Keeps.ite ((State.keeps_onLc _ u).mono (by simp)) (Keeps.refl _ u)
  have tells : ∀ u : State, Keeps [.xp, .ou, .ps, .za, .du, .cu, .rl, .mem, .pending] u (if now.cond = was.cond then u else u.tellDoor d now.cond) :=
    fun u => Keeps.ite (Keeps.refl _ u) ((State.keeps_tellDoor d now.cond u).mono (by simp))
  exact (hands s _).trans (tells _)

theorem State.keeps_moveDoor (d : Nat) (f : Door → Door) (force : Bool) (s : State) :
    Keeps [.xp, .ou, .ps, .za, .cu, .rl, .mem, .pending] s (s.moveDoor d f force) := by
  unfold State.moveDoor
  exact ((State.keeps_onDu _ s).mono (by simp)).trans ((State.keeps_afterDoor d _ _ _ _).mono (by simp))

theorem State.keeps_decideDoor (d : Nat) (f : Door → Door) (force : Bool) (s : State) :
    Keeps [.xp, .ou, .ps, .za, .rl, .mem, .pending] s (s.decideDoor d f force) := by
  unfold State.decideDoor
  split
  · exact (State.keeps_moveDoor d f force s).mono (by simp)
  · exact ((State.keeps_moveDoor d f force s).mono (by simp)).trans ((State.keeps_alert d _ _ _).mono (by simp))

theorem State.keeps_refreshDoor (s : State) (d : Nat) : Keeps [.xp, .ou, .ps, .za, .rl, .mem, .pending] s (s.refreshDoor d) :=
  Keeps.ite (State.keeps_decideDoor d _ _ s) (Keeps.refl _ s)

theorem State.keeps_refreshDoors (s : State) : Keeps [.xp, .ou, .ps, .za, .rl, .mem, .pending] s s.refreshDoors :=
  Keeps.foldl State.keeps_refreshDoor _ s

theorem State.keeps_onDoor (d : Nat) (f : Door → Door) (s : State) : Keeps [.xp, .ou, .ps, .za, .rl, .mem, .pending] s (s.onDoor d f) :=
  Keeps.ite (State.keeps_decideDoor d _ _ s) (Keeps.refl _ s)

theorem State.keeps_onDoors (ds : List Nat) (f : Door → Door) (s : State) :
    Keeps [.xp, .ou, .ps, .za, .rl, .mem, .pending] s (s.onDoors ds f) :=
  Keeps.foldl (fun s d => State.keeps_onDoor d f s) ds s

theorem State.keeps_doorReport (d : Nat) (value : Half) (s : State) :
    Keeps [.xp, .ou, .ps, .za, .rl, .mem, .pending] s (s.doorReport d value) := by
  have alerts : ∀ (u : State) (b : Bool), Keeps [.xp, .ou, .ps, .za, .rl, .mem, .pending] u (if b then u.alert d .pull 3 else u) :=
    fun u b => Keeps.ite ((State.keeps_alert d _ _ u).mono (by simp)) (Keeps.refl _ u)
  unfold State.doorReport
  refine Keeps.ite (Keeps.refl _ s) (Keeps.ite (State.keeps_decideDoor d _ _ s) ?_)
  exact (((State.keeps_onDu _ s).mono (by simp)).trans (alerts _ _)).trans (State.keeps_decideDoor d _ _ _)

theorem State.keeps_leftOpen (a : Nat) (s : State) : Keeps [.xp, .ou, .ps, .za, .du, .rl, .mail, .mem, .pending] s (s.leftOpen a) :=
  Keeps.foldl (fun s d => Keeps.ite (State.keeps_alert d _ _ s) (Keeps.refl _ s)) _ s

/-- A door that an activation leaves UNKNOWN has no filter candidates (R58). -/
theorem Door.takeUp_unreachable (old p : PlanBank) (d : Nat) (x : Door) :
    (x.takeUp old p d false).posCand = none ∧ (x.takeUp old p d false).exitCand = none := ⟨rfl, rfl⟩

/-! Taking up a plan moves doors and keeps their alerts back; CU takes them afterwards (R83, R154). -/

theorem TakingUp.keeps_move (d : Nat) (f : Door → Door) (force : Bool) (q : TakingUp) :
    Keeps [.xp, .ou, .ps, .za, .cu, .rl, .mem, .pending] q.state (q.move d f force).state := State.keeps_moveDoor d f force q.state

theorem TakingUp.keeps_expire (d : Nat) (q : TakingUp) :
    Keeps [.xp, .ou, .ps, .za, .cu, .rl, .mem, .pending] q.state (q.expire d).state := by
  have step : ∀ (r : TakingUp) (b : Bool) (f : Door → Door),
      Keeps [.xp, .ou, .ps, .za, .cu, .rl, .mem, .pending] r.state (if b then r.move d f false else r).state := by
    intro r b f
    cases b
    · exact Keeps.refl _ _
    · exact TakingUp.keeps_move d f false r
  exact (step q _ _).trans (step _ _ _)

theorem TakingUp.keeps_door (old : PlanBank) (q : TakingUp) (d : Nat) :
    Keeps [.xp, .ou, .ps, .za, .cu, .rl, .mem, .pending] q.state (q.door old d).state := by
  unfold TakingUp.door
  dsimp only
  split
  · split
    · exact (TakingUp.keeps_move d _ _ q).trans (TakingUp.keeps_expire d _)
    · exact TakingUp.keeps_move d _ _ q
  · exact ((State.keeps_onDu _ _).mono (by simp)).trans
      (Keeps.ite (Keeps.refl _ _) ((State.keeps_tellDoor d _ _).mono (by simp)))

theorem State.keeps_doorsTakeUp (old : PlanBank) (s : State) :
    Keeps [.xp, .ou, .ps, .za, .cu, .rl, .mem, .pending] s (s.doorsTakeUp old).state := by
  have fold : ∀ (ds : List Nat) (q : TakingUp),
      Keeps [.xp, .ou, .ps, .za, .cu, .rl, .mem, .pending] q.state (ds.foldl (TakingUp.door old) q).state := by
    intro ds
    induction ds with
    | nil => exact fun q => Keeps.refl _ _
    | cons d ds ih => exact fun q => (TakingUp.keeps_door old q d).trans (ih _)
  have discard : Keeps [.xp, .ou, .ps, .za, .cu, .rl, .mem, .pending] s (s.discardOutputs old) := (State.keeps_onLc _ s).mono (by simp)
  unfold State.doorsTakeUp
  exact discard.trans (fold PlanBank.doorNumbers { state := s.discardOutputs old, alerts := [] })

/-- An alert that CU takes as an event of its own moves XP's counts, summaries and NOTICE beside CU and the outputs (R154). -/
theorem State.keeps_takeAlerts (as : List DoorAlert) (s : State) :
    Keeps [.ou, .ps, .za, .du, .rl, .mail, .mem, .pending] s (s.takeAlerts as) := by
  have step : ∀ (t : State) (a : DoorAlert),
      Keeps [.ou, .ps, .za, .du, .rl, .mail, .mem, .pending] t (t.showCalls (t.alert a.door a.reason a.level)) :=
    fun t a => ((State.keeps_alert a.door a.reason a.level t).mono (by simp)).trans ((State.keeps_showCalls t _).mono (by simp))
  unfold State.takeAlerts
  exact Keeps.foldl step as s

theorem State.portKept_takeAlerts (as : List DoorAlert) (s : State) : PortKept s (s.takeAlerts as) := by
  have step : ∀ (t : State) (a : DoorAlert), PortKept t (t.showCalls (t.alert a.door a.reason a.level)) :=
    fun t a => (PortKept.of_keeps (State.keeps_alert a.door a.reason a.level t) (by simp)).trans (State.portKept_showCalls t _)
  unfold State.takeAlerts
  exact PortKept.foldl step as s

/-! ### The zone and alarm unit: it changes ZA, and through the doors DU, CU, LC and the messages -/

theorem State.keeps_handSounders (s : State) : Keeps [.xp, .ou, .ps, .za, .du, .cu, .rl, .mail, .mem, .pending] s s.handSounders :=
  Keeps.foldl (fun s _ => Keeps.ite (State.keeps_onLc _ s) (Keeps.refl _ s)) _ s

theorem State.keeps_evalPhases (s : State) : Keeps [.xp, .ou, .ps, .rl, .mem, .pending] s s.evalPhases := by
  unfold State.evalPhases
  exact ((((State.keeps_onZa _ s).mono (by simp)).trans ((State.keeps_tellRl _ _).mono (by simp))).trans
    ((State.keeps_handSounders _).mono (by simp))).trans ((State.keeps_refreshDoors _).mono (by simp))

theorem State.keeps_setArea (a : Nat) (f : Area → Area) (s : State) :
    Keeps [.xp, .ou, .ps, .lc, .du, .cu, .rl, .mail, .mem, .pending] s (s.setArea a f) := State.keeps_onZa _ s

theorem State.keeps_setZone (z : Nat) (f : Zone → Zone) (s : State) :
    Keeps [.xp, .ou, .ps, .lc, .du, .cu, .rl, .mail, .mem, .pending] s (s.setZone z f) := State.keeps_onZa _ s

theorem State.keeps_areasRound (z : Nat) (s : State) :
    Keeps [.xp, .ou, .ps, .lc, .du, .cu, .rl, .mail, .mem, .pending] s (s.areasRound z) := by
  unfold State.areasRound
  split
  · exact Keeps.refl _ s
  · exact (State.keeps_setArea _ _ s).trans (Keeps.foldl (fun s _ => State.keeps_setArea _ _ s) _ _)

theorem State.keeps_goGeneral (z : Nat) (s : State) : Keeps [.xp, .ou, .ps, .rl, .mem, .pending] s (s.goGeneral z) := by
  unfold State.goGeneral State.enterGeneral
  exact (((State.keeps_onZa _ s).mono (by simp)).trans ((State.keeps_areasRound z _).mono (by simp))).trans (State.keeps_evalPhases _)

theorem State.keeps_endInvestigation (s : State) : Keeps [.xp, .ou, .ps, .rl, .mem, .pending] s s.endInvestigation := by
  unfold State.endInvestigation
  split
  · split
    · exact (State.keeps_onZa _ s).mono (by simp)
    · exact ((State.keeps_setZone _ _ s).mono (by simp)).trans (State.keeps_goGeneral _ _)
  · exact Keeps.refl _ s

theorem State.keeps_applySequence (z : Nat) (cause : Cause) (s : State) :
    Keeps [.xp, .ou, .ps, .rl, .mem, .pending] s (s.applySequence z cause) := by
  unfold State.applySequence
  split
  · exact Keeps.ite ((State.keeps_onZa _ s).mono (by simp)) (State.keeps_goGeneral z s)
  · exact (State.keeps_endInvestigation s).trans (State.keeps_goGeneral z _)
  · exact (State.keeps_endInvestigation s).trans (State.keeps_goGeneral z _)
  · exact ((State.keeps_onZa _ s).mono (by simp)).trans (State.keeps_goGeneral z _)

theorem State.keeps_enterAlarm (z : Nat) (cause : Cause) (s : State) :
    Keeps [.xp, .ou, .ps, .rl, .mem, .pending] s (s.enterAlarm z cause) := by
  unfold State.enterAlarm
  exact (((((State.keeps_setZone _ _ s).mono (by simp)).trans ((State.keeps_onZa _ _).mono (by simp))).trans
    ((State.keeps_tellRl _ _).mono (by simp))).trans ((State.keeps_refreshDoors _).mono (by simp))).trans
    (State.keeps_applySequence z cause _)

theorem State.keeps_evalZone (z : Nat) (s : State) : Keeps [.xp, .ou, .ps, .rl, .mem, .pending] s (s.evalZone z) := by
  unfold State.evalZone
  split
  · exact Keeps.ite (State.keeps_enterAlarm z _ s) ((State.keeps_setZone _ _ s).mono (by simp))
  · exact Keeps.refl _ s

theorem State.keeps_updateAlarm (z : Nat) (e : DeviceEvent) (s : State) :
    Keeps [.xp, .ou, .ps, .rl, .mem, .pending] s (s.updateAlarm z e) := by
  unfold State.updateAlarm
  exact Keeps.ite (((State.keeps_setZone _ _ s).mono (by simp)).trans (State.keeps_endInvestigation _))
    ((State.keeps_setZone _ _ s).mono (by simp))

theorem State.keeps_zoneFollows (z : Nat) (e : DeviceEvent) (changed : Bool) (s : State) :
    Keeps [.xp, .ou, .ps, .rl, .mem, .pending] s (s.zoneFollows z e changed) := by
  unfold State.zoneFollows
  exact Keeps.ite (Keeps.ite (State.keeps_updateAlarm z e s) (Keeps.refl _ s)) (State.keeps_evalZone z s)

theorem State.keeps_testHit (i z : Nat) (s : State) :
    Keeps [.xp, .ou, .ps, .lc, .du, .cu, .rl, .mail, .mem, .pending] s (s.testHit i z) := by
  unfold State.testHit
  exact Keeps.ite ((State.keeps_onZa _ s).trans (State.keeps_setZone _ _ _)) (Keeps.refl _ s)

theorem State.keeps_decided (i : Nat) (y : Detector) (e : DeviceEvent) (s : State) :
    Keeps [.xp, .ou, .ps, .rl, .mem, .pending] s (s.decided i y e) := by
  unfold State.decided
  refine Keeps.trans ?_ (State.keeps_zoneFollows _ _ _ _)
  have set : Keeps [.xp, .ou, .ps, .rl, .mem, .pending] s (s.setDetector i (fun _ => y)) := (State.keeps_onZa _ s).mono (by simp)
  exact Keeps.ite (set.trans ((State.keeps_testHit i _ _).mono (by simp))) set

theorem State.keeps_detectorLost (i : Nat) (s : State) : Keeps [.xp, .ou, .ps, .rl, .mem, .pending] s (s.detectorLost i) := by
  unfold State.detectorLost
  have set : ∀ y, Keeps [.xp, .ou, .ps, .rl, .mem, .pending] s (s.setDetector i (fun _ => y)) := fun y =>
    (State.keeps_onZa _ s).mono (by simp)
  exact Keeps.ite (set _) ((set _).trans (State.keeps_zoneFollows _ _ _ _))

theorem State.keeps_evacuateAreas (as : List Nat) (s : State) :
    Keeps [.xp, .ou, .ps, .lc, .du, .cu, .rl, .mail, .mem, .pending] s (s.evacuateAreas as) :=
  Keeps.foldl (fun s _ => State.keeps_setArea _ _ s) as s

theorem State.keeps_regimeTold (r : Regime) (s : State) (z : Nat) : Keeps [.xp, .ou, .ps, .rl, .mem, .pending] s (s.regimeTold r z) := by
  unfold State.regimeTold
  have doors : Keeps [.xp, .ou, .ps, .rl, .mem, .pending] s ((s.plan.doorsOf z).foldl State.refreshDoor s) :=
    Keeps.foldl (fun t d => (State.keeps_refreshDoor t d).mono (by simp)) _ s
  exact Keeps.ite (doors.trans (State.keeps_endInvestigation _)) doors

/-- A change of regime touches of XP the change counts and summaries alone (R134, R166). -/
theorem State.keeps_changeRegime (a : Nat) (r : Regime) (closingEnd : Option Nat) (s : State) :
    Keeps [.ou, .ps, .rl, .mem, .pending] s (s.changeRegime a r closingEnd) := by
  unfold State.changeRegime
  exact (((State.keeps_setArea _ _ s).mono (by simp)).trans ((State.keeps_rewrite _ _).mono (by simp))).trans
    ((Keeps.foldl (State.keeps_regimeTold r) _ _).mono (by simp))

theorem State.portKept_changeRegime (a : Nat) (r : Regime) (closingEnd : Option Nat) (s : State) : PortKept s (s.changeRegime a r closingEnd) := by
  unfold State.changeRegime
  exact (PortKept.of_keeps (bs := [.xp]) (State.keeps_setArea _ _ s |>.mono (by simp)) (by simp)).trans
    ((State.portKept_rewrite _ _).trans (PortKept.of_keeps (Keeps.foldl (State.keeps_regimeTold r) _ _) (by simp)))

theorem State.keeps_checkClosing (s : State) (a : Nat) : Keeps [.ou, .ps, .rl, .mem, .pending] s (s.checkClosing a) :=
  Keeps.ite (State.keeps_changeRegime a _ _ s) (Keeps.refl _ s)

theorem State.portKept_checkClosing (s : State) (a : Nat) : PortKept s (s.checkClosing a) :=
  PortKept.ite (State.portKept_changeRegime a _ _ s) (PortKept.refl s)

theorem State.keeps_setRegimes (a : Nat) (night : Bool) (s : State) : Keeps [.ou, .ps, .rl, .mem, .pending] s (s.setRegimes a night) := by
  unfold State.setRegimes
  have first : Keeps [.ou, .ps, .rl, .mem, .pending] s ((s.toChange a night).foldl (fun t b =>
      if night then t.changeRegime b .closing (some (s.now + s.plan.closingTimeout a)) else t.changeRegime b .day none) s) :=
    Keeps.foldl (fun t b => Keeps.ite (State.keeps_changeRegime b _ _ t) (State.keeps_changeRegime b _ _ t)) _ s
  exact Keeps.ite (first.trans (Keeps.foldl State.keeps_checkClosing _ _)) first

theorem State.portKept_setRegimes (a : Nat) (night : Bool) (s : State) : PortKept s (s.setRegimes a night) := by
  unfold State.setRegimes
  have first : PortKept s ((s.toChange a night).foldl (fun t b =>
      if night then t.changeRegime b .closing (some (s.now + s.plan.closingTimeout a)) else t.changeRegime b .day none) s) :=
    PortKept.foldl (fun t b => PortKept.ite (State.portKept_changeRegime b _ _ t) (State.portKept_changeRegime b _ _ t)) _ s
  exact PortKept.ite (first.trans (PortKept.foldl State.portKept_checkClosing _ _)) first

/-! ### The route and lighting unit: it changes RL, CU, LC and the messages; a test's end also OU and PS -/

theorem State.keeps_handLamps (s : State) : Keeps [.xp, .ou, .ps, .za, .du, .cu, .rl, .mail, .mem, .pending] s s.handLamps :=
  Keeps.foldl (fun s _ => Keeps.ite (State.keeps_onLc _ s) (Keeps.refl _ s)) _ s

theorem State.keeps_strandZone (s : State) (z : Nat) : Keeps [.xp, .ou, .ps, .za, .du, .mail, .mem, .pending] s (s.strandZone z) := by
  unfold State.strandZone
  exact Keeps.ite (Keeps.refl _ s) (((State.keeps_onRl _ s).mono (by simp)).trans ((State.keeps_callsStranded _ z _).mono (by simp)))

theorem State.keeps_decideSign (must : Bool) (s : State) (g : Nat) :
    Keeps [.xp, .ou, .ps, .za, .du, .cu, .mail, .mem, .pending] s (s.decideSign must g) := by
  unfold State.decideSign
  exact Keeps.ite (((State.keeps_onRl _ s).mono (by simp)).trans ((State.keeps_onLc _ _).mono (by simp))) (Keeps.refl _ s)

theorem State.keeps_routeSteps (s : State) : Keeps [.xp, .ou, .ps, .za, .du, .mem, .pending] s s.routeSteps := by
  unfold State.routeSteps
  have strands : Keeps [.xp, .ou, .ps, .za, .du, .mail, .mem, .pending] s s.strandZones := Keeps.foldl State.keeps_strandZone _ s
  have signs : ∀ u : State, Keeps [.xp, .ou, .ps, .za, .du, .cu, .mail, .mem, .pending] u (u.decideSigns false) :=
    Keeps.foldl (State.keeps_decideSign false) _
  have asks : ∀ u : State, Keeps [.xp, .ou, .ps, .za, .du, .mem, .pending] u u.askClaims := fun u =>
    ((State.keeps_onMail _ u).mono (by simp)).trans ((State.keeps_onRl _ _).mono (by simp))
  exact (((strands.mono (by simp)).trans (asks _)).trans ((signs _).mono (by simp))).trans ((State.keeps_handLamps _).mono (by simp))

theorem State.keeps_routeEvent (concerned : Nat → Bool) (s : State) :
    Keeps [.xp, .ou, .ps, .za, .du, .mem, .pending] s (s.routeEvent concerned) :=
  ((State.keeps_onRl _ s).mono (by simp)).trans (State.keeps_routeSteps _)

theorem State.keeps_closeTest (t : LightTest) (result : TestResult) (code : Completion) (words : List Word) (s : State) :
    Keeps [.xp, .lc, .za, .du, .cu, .mail, .mem, .pending] s (s.closeTest t result code words) := by
  unfold State.closeTest State.decideCircuits
  exact ((((State.keeps_onRl _ s).mono (by simp)).trans ((State.keeps_onPs _ _).mono (by simp))).trans
    ((State.keeps_endHeld _ _ _ _).mono (by simp))).trans ((State.keeps_onRl _ _).mono (by simp))

theorem State.keeps_abortTest (code : Completion) (s : State) :
    Keeps [.xp, .lc, .za, .du, .cu, .mail, .mem, .pending] s (s.abortTest code) := by
  unfold State.abortTest
  split
  · exact Keeps.refl _ s
  · exact State.keeps_closeTest _ _ _ _ s

theorem State.keeps_dropCircuit (c : Nat) (t : LightTest) (result : TestResult) (failed : Bool) (s : State) :
    Keeps [.xp, .lc, .za, .du, .cu, .mail, .mem, .pending] s (s.dropCircuit c t result failed) := by
  unfold State.dropCircuit
  refine Keeps.ite (Keeps.trans ?_ (State.keeps_closeTest _ _ _ _ _)) ?_ <;> exact (State.keeps_onRl _ s).mono (by simp)

theorem State.keeps_settleLamps (who : Nat → Bool) (s : State) :
    Keeps [.xp, .ou, .ps, .za, .du, .cu, .mail, .mem, .pending] s (s.settleLamps who) := by
  unfold State.settleLamps State.decideCircuits
  exact ((State.keeps_onRl _ s).mono (by simp)).trans ((State.keeps_handLamps _).mono (by simp))

theorem State.keeps_lampReport (c : Nat) (v : Half) (s : State) :
    Keeps [.xp, .za, .du, .cu, .mail, .mem, .pending] s (s.lampReport c v) := by
  have settle : ∀ u : State, Keeps [.xp, .za, .du, .cu, .mail, .mem, .pending] u (u.settleLamps (fun k => k = c)) := fun u =>
    (State.keeps_settleLamps _ u).mono (by simp)
  have onRl : ∀ f, Keeps [.xp, .za, .du, .cu, .mail, .mem, .pending] s (s.onRl f) := fun f => (State.keeps_onRl f s).mono (by simp)
  unfold State.lampReport
  split
  · split
    · exact Keeps.ite ((onRl _).trans (((State.keeps_dropCircuit c _ _ _ _).mono (by simp)).trans (settle _)))
        ((onRl _).trans (settle _))
    · exact (onRl _).trans (settle _)
  · exact (onRl _).trans (settle _)

theorem State.keeps_lampLost (c : Nat) (s : State) : Keeps [.xp, .za, .du, .cu, .mail, .mem, .pending] s (s.lampLost c) := by
  have settle : ∀ u : State, Keeps [.xp, .za, .du, .cu, .mail, .mem, .pending] u (u.settleLamps (fun k => k = c)) := fun u =>
    (State.keeps_settleLamps _ u).mono (by simp)
  unfold State.lampLost
  split
  · exact Keeps.ite (((State.keeps_dropCircuit c _ _ _ _).mono (by simp)).trans (settle _)) (settle _)
  · exact settle _

/-! ### The loop controllers -/

/-- What a report of a device's condition cannot touch. -/
theorem State.keeps_reportDevice (i : Nat) (was : DeviceCond) (s : State) : Keeps [.xp, .mem, .pending] s (s.reportDevice i was) := by
  have lost : Keeps [.xp, .mem, .pending] s (s.detectorLost i) := (State.keeps_detectorLost i s).mono (by simp)
  unfold State.reportDevice
  split
  · exact Keeps.ite lost (Keeps.refl _ s)
  · exact Keeps.ite lost (Keeps.refl _ s)
  · split
    · exact Keeps.ite ((State.keeps_onDoor _ _ s).mono (by simp)) (Keeps.refl _ s)
    · exact Keeps.ite (Keeps.refl _ s) (Keeps.refl _ s)
  · split
    · exact Keeps.ite ((State.keeps_onCu _ s).mono (by simp)) (Keeps.refl _ s)
    · exact Keeps.ite (Keeps.refl _ s) (Keeps.refl _ s)
  · split
    · exact Keeps.ite ((State.keeps_lampLost _ s).mono (by simp)) (Keeps.refl _ s)
    · exact Keeps.ite (Keeps.refl _ s) (Keeps.refl _ s)
  · exact Keeps.refl _ s

theorem State.keeps_reportLoop (s : State) (l : Nat) (was : State) : Keeps [.xp, .mem, .pending] s (s.reportLoop l was) :=
  Keeps.foldl (fun t i => Keeps.ite (Keeps.refl _ t) (State.keeps_reportDevice i _ t)) _ s

/-- STOP LOOP's work leaves the banks, the queue and the registers of XP, and has XP rewrite the records R39 names and no other. -/
theorem State.keeps_stopLoop (l : Nat) (s : State) : Keeps [.mem, .pending] s (s.stopLoop l) :=
  ((((State.keeps_onLc _ s).mono (by simp)).trans ((State.keeps_onLc _ _).mono (by simp))).trans
    ((State.keeps_endHeld _ _ _ _).mono (by simp))).trans
    (((State.keeps_rewrite _ _).mono (by simp)).trans ((State.keeps_reportLoop _ l s).mono (by simp)))

theorem State.stopLoop_xp (l : Nat) (s : State) : (s.stopLoop l).xp = s.xp.rewrite (s.stopRecords l) :=
  State.keeps_reportLoop _ l s .xp (by simp)

theorem State.stopLoop_counts (l : Nat) (s : State) {k : Nat} (h : k < 853) :
    (s.stopLoop l).xp.counts.get k = advance (s.stopRecords l k) (s.xp.counts.get k) := by
  rw [State.stopLoop_xp]
  exact State.rewrite_counts _ s h

theorem State.portKept_stopLoop (l : Nat) (s : State) : PortKept s (s.stopLoop l) := by
  simp [PortKept, State.stopLoop_xp, Xp.rewrite]

/-- What an answer passed on cannot touch. -/
theorem State.keeps_passAnswer (i : Nat) (value : Half) (s : State) : Keeps [.xp, .mem, .pending] s (s.passAnswer i value) := by
  unfold State.passAnswer State.detectorAnswer State.contactAnswer
  split
  · exact (State.keeps_decided i _ _ s).mono (by simp)
  · exact (State.keeps_decided i _ _ s).mono (by simp)
  · split
    · exact (State.keeps_doorReport _ _ s).mono (by simp)
    · exact Keeps.refl _ s
  · split
    · exact (State.keeps_helpReport _ _ s).mono (by simp)
    · exact Keeps.refl _ s
  · split
    · exact (State.keeps_lampReport _ _ s).mono (by simp)
    · exact Keeps.refl _ s
  · exact Keeps.refl _ s

theorem State.keeps_takeAnswer (i : Nat) (k : DeviceKind) (sent : Option (BitVec 4)) (c : AnswerContent) (s : State) :
    Keeps [.xp, .mem, .pending] s (s.takeAnswer i k sent c) := by
  unfold State.takeAnswer
  refine Keeps.ite (Keeps.refl _ s) ?_
  have set : Keeps [.xp, .mem, .pending] s (s.setDevice i (fun x => x.take k sent c)) := (State.keeps_onLc _ s).mono (by simp)
  have told := Keeps.trans set (Keeps.ite (c := ((s.setDevice i (fun x => x.take k sent c)).device i).cond = (s.device i).cond)
    (Keeps.refl _ _) (State.keeps_reportDevice i (s.device i).cond _))
  exact Keeps.ite (told.trans (State.keeps_passAnswer i _ _)) told

/-! ### The presence monitor -/

theorem State.keeps_hostPresent (s : State) : Keeps [.ou, .ps, .za, .du, .rl, .mail, .mem, .pending] s s.hostPresent := by
  unfold State.hostPresent State.attach State.startPresence
  split
  · exact Keeps.refl _ s
  · exact (State.keeps_onXp _ s).mono (by simp)
  · exact Keeps.trans (((State.keeps_onXp _ s).mono (by simp)).trans ((State.keeps_onXp _ _).mono (by simp)))
      ((State.keeps_refreshHelps _).mono (by simp))

end Sys2Proof.Machine
end

