-- ==== Sys2Proof/Laws/Memory.lean ====
section
/-!
SUPPORT. The canonical form of memory is kept by every operation, and what reads give after writes.
-/

namespace Sys2Proof.Machine

/-- Writing one byte lists no offset that was not listed before but the one written. -/
theorem Memory.mem_write {m : Memory} {k : Nat} {v : Byte} {c : Host.Cell} (h : c ∈ m.write k v) : c = (k, v) ∨ c ∈ m := by
  induction m with
  | nil =>
    simp only [Memory.write] at h
    split at h <;> simp_all
  | cons d m ih =>
    obtain ⟨a, x⟩ := d
    simp only [Memory.write] at h
    split at h
    · cases List.mem_cons.mp h with
      | inl h => exact Or.inr (by simp [h])
      | inr h => cases ih h with
        | inl h => exact Or.inl h
        | inr h => exact Or.inr (by simp [h])
    · split at h
      · split at h
        · exact Or.inr (by simp [h])
        · cases List.mem_cons.mp h with
          | inl h => exact Or.inl h
          | inr h => exact Or.inr (by simp [h])
      · split at h
        · exact Or.inr h
        · cases List.mem_cons.mp h with
          | inl h => exact Or.inl h
          | inr h => exact Or.inr h

/-- A write keeps the canonical form. -/
theorem Memory.wf_write {m : Memory} (h : m.wf) (k : Nat) (v : Byte) : (m.write k v).wf := by
  induction m with
  | nil =>
    simp only [Memory.write]
    split <;> simp_all [Memory.wf]
  | cons d m ih =>
    obtain ⟨a, x⟩ := d
    obtain ⟨hp, hz⟩ := h
    have hp' := List.pairwise_cons.mp hp
    have hm : Memory.wf m := ⟨hp'.2, fun c hc => hz c (by simp [hc])⟩
    simp only [Memory.write]
    split
    · rename_i hk
      obtain ⟨ip, iz⟩ := ih hm
      refine ⟨List.pairwise_cons.mpr ⟨?_, ip⟩, ?_⟩
      · intro c hc
        cases Memory.mem_write hc with
        | inl h => simpa [h] using hk
        | inr h => exact hp'.1 c h
      · intro c hc
        cases List.mem_cons.mp hc with
        | inl h => exact hz c (by simp [h])
        | inr h => exact iz c h
    · split
      · rename_i _ hk
        split
        · exact hm
        · rename_i hv
          refine ⟨List.pairwise_cons.mpr ⟨?_, hp'.2⟩, ?_⟩
          · intro c hc
            have := hp'.1 c hc
            simpa [← hk] using this
          · intro c hc
            cases List.mem_cons.mp hc with
            | inl h => simpa [h] using hv
            | inr h => exact hm.2 c h
      · rename_i h1 h2
        split
        · exact ⟨hp, hz⟩
        · rename_i hv
          refine ⟨List.pairwise_cons.mpr ⟨?_, hp⟩, ?_⟩
          · intro c hc
            cases List.mem_cons.mp hc with
            | inl h => simp only [h]; omega
            | inr h => have := hp'.1 c h; simp only at this ⊢; omega
          · intro c hc
            cases List.mem_cons.mp hc with
            | inl h => simpa [h] using hv
            | inr h => exact hz c h

theorem Memory.wf_nil : Memory.wf [] := by simp [Memory.wf]

/-- A word's write keeps the canonical form. -/
theorem Memory.wf_writeWord {m : Memory} (h : m.wf) (k : Nat) (w : Word) : (m.writeWord k w).wf := by
  unfold Memory.writeWord
  exact Memory.wf_write (Memory.wf_write (Memory.wf_write (Memory.wf_write h _ _) _ _) _ _) _ _

/-- Listing some of the cells keeps the canonical form. -/
theorem Memory.wf_filter {m : Memory} (h : m.wf) (p : Host.Cell → Bool) : Memory.wf (m.filter p) :=
  ⟨h.1.filter p, fun c hc => h.2 c (List.mem_filter.mp hc).1⟩

/-- A copy keeps the canonical form. -/
theorem Memory.wf_copy {m : Memory} (h : m.wf) (src dst len : Nat) : (m.copy src dst len).wf := by
  unfold Memory.copy
  generalize m.filter (fun c => src ≤ c.1 && c.1 < src + len) = cells
  have base := Memory.wf_filter h (fun c => !(dst ≤ c.1 && c.1 < dst + len))
  generalize m.filter (fun c => !(dst ≤ c.1 && c.1 < dst + len)) = acc at base ⊢
  induction cells generalizing acc with
  | nil => exact base
  | cons c cells ih => exact ih _ (Memory.wf_write base _ _)

/-- In a canonical memory an offset below every listed one reads 0. -/
theorem Memory.read_below {m : Memory} {k : Nat} (h : ∀ c ∈ m, k < c.1) : m.read k = 0 := by
  induction m with
  | nil => rfl
  | cons d m ih =>
    obtain ⟨a, x⟩ := d
    have : a ≠ k := by have := h (a, x) (by simp); simp only at this; omega
    simp only [Memory.read, this, if_false]
    exact ih (fun c hc => h c (by simp [hc]))

/-- What a read gives after a write of one byte to a canonical memory. -/
theorem Memory.read_write {m : Memory} (h : m.wf) (k : Nat) (v : Byte) (j : Nat) :
    (m.write k v).read j = if j = k then v else m.read j := by
  induction m with
  | nil =>
    simp only [Memory.write]
    split
    · rename_i hv; simp [Memory.read, hv]
    · by_cases hj : j = k
      · simp [Memory.read, hj]
      · have : k ≠ j := fun e => hj e.symm
        simp [Memory.read, hj, this]
  | cons d m ih =>
    obtain ⟨a, x⟩ := d
    have hp' := List.pairwise_cons.mp h.1
    have hm : Memory.wf m := ⟨hp'.2, fun c hc => h.2 c (by simp [hc])⟩
    simp only [Memory.write]
    split
    · rename_i hk
      simp only [Memory.read, ih hm]
      by_cases hj : j = k
      · have : a ≠ j := by omega
        have : a ≠ k := by omega
        simp_all
      · simp [hj]
    · split
      · rename_i _ hk
        split
        · rename_i hv
          by_cases hj : j = k
          · have : Memory.read m k = 0 := Memory.read_below (fun c hc => by have := hp'.1 c hc; simpa [← hk] using this)
            simp [hj, this, hv]
          · have : a ≠ j := by omega
            simp [Memory.read, hj, this]
        · by_cases hj : j = k
          · simp [Memory.read, hj]
          · have : k ≠ j := fun e => hj e.symm
            have : a ≠ j := by omega
            simp_all [Memory.read]
      · rename_i h1 h2
        split
        · rename_i hv
          by_cases hj : j = k
          · subst hj
            have : Memory.read ((a, x) :: m) j = 0 := Memory.read_below (fun c hc => by
              cases List.mem_cons.mp hc with
              | inl h => simp only [h]; omega
              | inr h => have := hp'.1 c h; simp only at this; omega)
            simp [this, hv]
          · simp [hj]
        · by_cases hj : j = k
          · simp [Memory.read, hj]
          · have : k ≠ j := fun e => hj e.symm
            simp [Memory.read, hj, this]

/-- What a read gives after the write of a word: its bytes, least significant lowest (R174). -/
theorem Memory.read_writeWord {m : Memory} (h : m.wf) (k : Nat) (w : Word) (j : Nat) :
    (m.writeWord k w).read j = if k ≤ j ∧ j < k + 4 then byteOfWord w (j - k) else m.read j := by
  have h1 := Memory.wf_write h k (byteOfWord w 0)
  have h2 := Memory.wf_write h1 (k + 1) (byteOfWord w 1)
  have h3 := Memory.wf_write h2 (k + 2) (byteOfWord w 2)
  unfold Memory.writeWord
  rw [Memory.read_write h3, Memory.read_write h2, Memory.read_write h1, Memory.read_write h]
  by_cases e3 : j = k + 3
  · subst e3; simp [Nat.add_sub_cancel_left]
  by_cases e2 : j = k + 2
  · subst e2; simp [Nat.add_sub_cancel_left]
  by_cases e1 : j = k + 1
  · subst e1; simp [Nat.add_sub_cancel_left]
  by_cases e0 : j = k
  · subst e0; simp
  have : ¬ (k ≤ j ∧ j < k + 4) := by omega
  simp [e0, e1, e2, e3, this]

end Sys2Proof.Machine
end

