-- ==== Sys2Proof/Laws/Messages.lean ====
section
/-!
SUPPORT. What ZA tells RL and CU (R7, R12): the messages that each shared operation sends, said once, and the effective phases that they follow.
-/

namespace Sys2Proof.Machine

/-! ### Sending nothing, and one thing after another -/

theorem ZaTells.refl (s : State) : ZaTells s s [] := (List.append_nil _).symm

theorem ZaTells.trans {s t u : State} {ms ns : List ZaMessage} (h : ZaTells s t ms) (k : ZaTells t u ns) : ZaTells s u (ms ++ ns) := by
  unfold ZaTells at *
  rw [k, h, List.append_assoc]

/-- An operation that leaves the messages as they are tells nothing. -/
theorem ZaTells.of_keeps {bs : List Block} {s t : State} (h : Keeps bs s t) (hm : .mail ∈ bs) : ZaTells s t [] := by
  have e : t.mail = s.mail := h .mail hm
  simp [ZaTells, e]

/-- Steps that each tell nothing tell nothing together. -/
theorem ZaTells.foldl {α : Type} {f : State → α → State} (h : ∀ s a, ZaTells s (f s a) []) (as : List α) (s : State) :
    ZaTells s (as.foldl f s) [] := by
  induction as generalizing s with
  | nil => exact ZaTells.refl s
  | cons a as ih => exact (h s a).trans (ih (f s a))

theorem State.zaTells_tellRl (ms : List ZaMessage) (s : State) : ZaTells s (s.tellRl ms) ms := rfl

/-! ### The doors tell DU's messages only -/

theorem State.zaTells_afterDoor (d : Nat) (was now : Door) (force : Bool) (s : State) : ZaTells s (s.afterDoor d was now force) [] := by
  have hands : ∀ b : Bool, ZaTells s (if b then s.handDoor d else s) [] := fun b =>
    ZaTells.of_keeps (Keeps.ite (State.keeps_onLc _ s) (Keeps.refl _ s)) (by simp)
  have tells : ∀ u : State, ZaTells u (if now.cond = was.cond then u else u.tellDoor d now.cond) [] := fun u => by
    split <;> simp [ZaTells, State.tellDoor, State.onMail]
  exact (hands _).trans (tells _)

theorem State.zaTells_decideDoor (d : Nat) (f : Door → Door) (force : Bool) (s : State) : ZaTells s (s.decideDoor d f force) [] := by
  have moves : ZaTells s (s.moveDoor d f force) [] :=
    (ZaTells.of_keeps (State.keeps_onDu _ s) (by simp)).trans (State.zaTells_afterDoor d _ _ force _)
  unfold State.decideDoor
  split
  · exact moves
  · exact moves.trans (ZaTells.of_keeps (State.keeps_alert d _ _ _) (by simp))

theorem State.zaTells_refreshDoor (s : State) (d : Nat) : ZaTells s (s.refreshDoor d) [] := by
  unfold State.refreshDoor
  split
  · exact State.zaTells_decideDoor d _ _ s
  · exact ZaTells.refl s

theorem State.zaTells_refreshDoors (s : State) : ZaTells s s.refreshDoors [] := ZaTells.foldl State.zaTells_refreshDoor _ s

/-! ### Effective phases (R12) -/

theorem State.phaseNow_eq (s : State) (z : Nat) : s.phaseNow z = s.plan.phaseUnder s.area z := rfl

theorem State.phaseMessages_eq (s : State) :
    s.phaseMessages = phaseNews (fun z => (s.zone z).phase) (s.plan.phaseUnder s.area) := rfl

/-- News of the same phases is none. -/
theorem phaseNews_self (f : Nat → Phase) : phaseNews f f = [] := by
  simp [phaseNews]

/-- News depends on the phases of the numbered zones alone. -/
theorem phaseNews_congr {f g f' g' : Nat → Phase} (h : ∀ z, isZone z = true → f z = f' z) (k : ∀ z, isZone z = true → g z = g' z) :
    phaseNews f g = phaseNews f' g' := by
  have all : ∀ z ∈ PlanBank.zoneNumbers, isZone z = true := fun z m => by
    have := List.mem_range'_1.1 m
    simp only [isZone, Bool.and_eq_true, decide_eq_true_eq]
    omega
  unfold phaseNews
  revert all
  generalize PlanBank.zoneNumbers = zs
  intro all
  induction zs with
  | nil => rfl
  | cons z zs ih =>
    have hz := all z (List.mem_cons_self ..)
    simp only [List.filterMap_cons, h z hz, k z hz, ih (fun y m => all y (List.mem_cons_of_mem _ m))]

/-- After an evaluation every zone's record shows the phase that the areas give it. -/
theorem State.evalPhases_phase (s : State) {z : Nat} (h : isZone z = true) : (s.evalPhases.zone z).phase = s.plan.phaseUnder s.area z := by
  have e : s.evalPhases.za = { s.za with zones := s.za.zones.map (fun z x => { x with phase := s.phaseNow z }) } := by
    unfold State.evalPhases
    rw [State.keeps_refreshDoors _ .za (by simp), State.keeps_handSounders _ .za (by simp)]
    rfl
  have hz : Table.holds 1 120 z := by
    simp only [isZone, Bool.and_eq_true, decide_eq_true_eq] at h
    exact ⟨h.1, by omega⟩
  rw [State.zone, e]
  simp only [Table.get_map _ _ hz]
  rfl

/-- An evaluation of the effective phases tells of those that have changed, and of nothing else. -/
theorem State.zaTells_evalPhases (s : State) : ZaTells s s.evalPhases (phaseChanges s s.evalPhases) := by
  have e : phaseChanges s s.evalPhases = s.phaseMessages := by
    rw [State.phaseMessages_eq]
    exact phaseNews_congr (fun _ _ => rfl) (fun z h => State.evalPhases_phase s h)
  rw [e]
  have told := ((ZaTells.of_keeps (State.keeps_onZa (fun za => { za with zones := za.zones.map (fun z x => { x with phase := s.phaseNow z }) }) s)
    (by simp)).trans (State.zaTells_tellRl s.phaseMessages _)).trans
    ((ZaTells.of_keeps (State.keeps_handSounders _) (by simp)).trans (State.zaTells_refreshDoors _))
  have l : ([] : List ZaMessage) ++ s.phaseMessages ++ ([] ++ []) = s.phaseMessages := by simp
  rw [l] at told
  exact told

/-- The areas round a zone act without moving a zone's record (R17). -/
theorem State.areasRound_zone (z y : Nat) (s : State) : (s.areasRound z).zone y = s.zone y := by
  unfold State.areasRound
  split
  · rfl
  · have fold : ∀ (bs : List Nat) (u : State),
        (bs.foldl (fun s b => s.setArea b (Area.bringIn (s.plan.phaseInterval b) s.now)) u).za.zones = u.za.zones := by
      intro bs
      induction bs with
      | nil => exact fun _ => rfl
      | cons b bs ih => exact fun u => ih _
    simp only [State.zone, fold]
    rfl

/-- Going to GENERAL for a zone tells of the effective phases that have changed with it, and of nothing else (R12, R17). -/
theorem State.zaTells_goGeneral (z : Nat) (s : State) : ZaTells s (s.goGeneral z) (phaseChanges s (s.goGeneral z)) := by
  have same : phaseChanges (s.enterGeneral.areasRound z) (s.goGeneral z) = phaseChanges s (s.goGeneral z) :=
    phaseNews_congr (fun y _ => by rw [State.areasRound_zone]; rfl) (fun _ _ => rfl)
  have still : ZaTells s (s.enterGeneral.areasRound z) [] :=
    ZaTells.of_keeps (((State.keeps_onZa _ s).mono (by simp)).trans (State.keeps_areasRound z _)) (by simp)
  have told := still.trans (State.zaTells_evalPhases (s.enterGeneral.areasRound z))
  rw [List.nil_append] at told
  exact same ▸ told

/-- A change of a zone's record that keeps its phase keeps every zone's phase. -/
theorem State.setZone_phase {f : Zone → Zone} (hf : ∀ x, (f x).phase = x.phase) (z y : Nat) (s : State) :
    ((s.setZone z f).zone y).phase = (s.zone y).phase := by
  simp only [State.zone, State.setZone_za]
  by_cases e : y = z
  · subst e
    by_cases h : Table.holds 1 120 y
    · rw [Table.get_modify_same _ _ h, hf]
    · rw [Table.get_outside _ h, Table.get_outside _ h]
  · rw [Table.get_modify_other _ _ e]

/-- Going to GENERAL after such a change tells of the effective phases that have changed, and of nothing else. -/
theorem State.zaTells_goGeneral_setZone {f : Zone → Zone} (hf : ∀ x, (f x).phase = x.phase) (z : Nat) (s : State) :
    ZaTells s ((s.setZone z f).goGeneral z) (phaseChanges s ((s.setZone z f).goGeneral z)) := by
  have e : phaseChanges (s.setZone z f) ((s.setZone z f).goGeneral z) = phaseChanges s ((s.setZone z f).goGeneral z) :=
    phaseNews_congr (fun y _ => State.setZone_phase hf z y s) (fun _ _ => rfl)
  have told := (ZaTells.of_keeps (State.keeps_setZone z f s) (by simp)).trans (State.zaTells_goGeneral z (s.setZone z f))
  rw [List.nil_append, e] at told
  exact told

/-- The end of an investigation tells of the effective phases that have changed with it, and of nothing else (R16). -/
theorem State.zaTells_endInvestigation (s : State) : ZaTells s s.endInvestigation (phaseChanges s s.endInvestigation) := by
  have none : ∀ t : State, t.za.zones = s.za.zones → t.mail = s.mail → ZaTells s t (phaseChanges s t) := by
    intro t hz hm
    have e : phaseChanges s t = phaseChanges s s := by simp only [phaseChanges, State.zone, hz]
    rw [e, phaseChanges, phaseNews_self]
    simp [ZaTells, hm]
  unfold State.endInvestigation
  split
  · split
    · exact none _ rfl rfl
    · rename_i z _
      exact State.zaTells_goGeneral_setZone
        (f := fun x => { x with cause := if x.cause = Cause.detector then .escalated else x.cause }) (by intro x; rfl) z s
  · exact none _ rfl rfl

end Sys2Proof.Machine
end

