-- ==== Sys2Proof/Laws/PerInstr.lean ====
section
/-!
SUPPORT. One family of statements about every command as syntax: a command is well formed exactly when each number it carries lies in
the range the manual gives that kind of number (00_scope, 'Numbers used throughout').
-/

namespace Sys2Proof.Laws.Ranges

/-- The numbers a command carries, each as (lowest number the part has, highest, the number carried). -/
def ranges : Instr → List (Nat × Nat × Nat)
  | .changeSummaryClear index _ => [(0, 26, index)]
  | .commit slot => [(0, 23, slot)]
  | .withdrawal slot => [(0, 23, slot)]
  | .giveBack slot => [(0, 23, slot)]
  | .callOut loop _ _ => [(0, 3, loop)]
  | .answer loop _ addr _ _ => [(0, 3, loop), (1, 96, addr)]
  | .sweepEnd loop => [(0, 3, loop)]
  | .releaseBroadcast loop _ _ => [(0, 3, loop)]
  | .keyInputChange key _ => [(1, 4, key)]
  | .keyFilterExpiry key => [(1, 4, key)]
  | .phaseTimerExpiry area => [(0, 23, area)]
  | .closingTimerExpiry area => [(0, 23, area)]
  | .callAgeing entry => [(0, 31, entry)]
  | .returnHoldExpiry zone => [(1, 120, zone)]
  | .passExpiry door => [(1, 64, door)]
  | .doorHoldTimerExpiry door => [(1, 64, door)]
  | .lockSenseTimerExpiry door => [(1, 64, door)]
  | .closeTimerExpiry door => [(1, 64, door)]
  | .rechargeExpiry circuit => [(1, 32, circuit)]
  | .coldReset | .ifaceReset _ | .lineEnable _ | .noticeClear _ | .noticeMaskWrite _ | .presenceWrite _
  | .hostWrite _ _ _ | .take | .cancel | .acknowledge | .silence | .resound | .evacuate | .resetSite | .isolateZone
  | .restoreZone | .testZone | .setRegime | .startLoop | .stopLoop | .isolateDevice | .restoreDevice | .passDoor
  | .holdDoor | .releaseHold | .lockdown | .endLockdown | .clearPull | .isolateDoor | .restoreDoor | .attendCall
  | .closeCall | .setCallLevel | .barRoute | .unbarRoute | .testLights | .stopTest | .commitPlan | .copyPlan
  | .validationEnd | .sequenceCalmReport | .testEndedReport | .activation | .tAckExpiry | .tSearchExpiry
  | .presenceTimerExpiry | .testEndTime | .uptimeTick | .zoneAlarmMessage | .effectivePhaseMessage
  | .doorConditionMessage | .evacClaimRequest => []

/-- A command is well formed exactly when each of its numbers lies in its range. -/
def Statement (i : Instr) : Prop :=
  i.wellFormed = true ↔ ∀ r ∈ ranges i, r.1 ≤ r.2.2 ∧ r.2.2 ≤ r.2.1

/-- With no number to check, the list of ranges asks nothing. -/
theorem of_none : (true = true ↔ ∀ r ∈ ([] : List (Nat × Nat × Nat)), r.1 ≤ r.2.2 ∧ r.2.2 ≤ r.2.1) := by decide

/-- With one number to check, the list of ranges asks that number's range. -/
theorem of_one {b : Bool} {lo hi n : Nat} (h : b = true ↔ lo ≤ n ∧ n ≤ hi) :
    (b = true ↔ ∀ r ∈ [(lo, hi, n)], r.1 ≤ r.2.2 ∧ r.2.2 ≤ r.2.1) := by
  rw [h, List.forall_mem_singleton]

theorem isSlot_iff (n : Nat) : isSlot n = true ↔ 0 ≤ n ∧ n ≤ 23 := by
  rw [isSlot, decide_eq_true_iff]; omega

theorem isLoop_iff (n : Nat) : isLoop n = true ↔ 0 ≤ n ∧ n ≤ 3 := by
  rw [isLoop, decide_eq_true_iff]; omega

theorem isAddress_iff (n : Nat) : isAddress n = true ↔ 1 ≤ n ∧ n ≤ 96 := by
  rw [isAddress, Bool.and_eq_true, decide_eq_true_iff, decide_eq_true_iff]

theorem isZone_iff (n : Nat) : isZone n = true ↔ 1 ≤ n ∧ n ≤ 120 := by
  rw [isZone, Bool.and_eq_true, decide_eq_true_iff, decide_eq_true_iff]

theorem isArea_iff (n : Nat) : isArea n = true ↔ 0 ≤ n ∧ n ≤ 23 := by
  rw [isArea, decide_eq_true_iff]; omega

theorem isDoor_iff (n : Nat) : isDoor n = true ↔ 1 ≤ n ∧ n ≤ 64 := by
  rw [isDoor, Bool.and_eq_true, decide_eq_true_iff, decide_eq_true_iff]

theorem isCircuit_iff (n : Nat) : isCircuit n = true ↔ 1 ≤ n ∧ n ≤ 32 := by
  rw [isCircuit, Bool.and_eq_true, decide_eq_true_iff, decide_eq_true_iff]

theorem isKey_iff (n : Nat) : isKey n = true ↔ 1 ≤ n ∧ n ≤ 4 := by
  rw [isKey, Bool.and_eq_true, decide_eq_true_iff, decide_eq_true_iff]

theorem isCallEntry_iff (n : Nat) : isCallEntry n = true ↔ 0 ≤ n ∧ n ≤ 31 := by
  rw [isCallEntry, decide_eq_true_iff]; omega

theorem isSummaryWord_iff (n : Nat) : isSummaryWord n = true ↔ 0 ≤ n ∧ n ≤ 26 := by
  rw [isSummaryWord, decide_eq_true_iff]; omega

theorem coldReset : Statement (.coldReset) :=
  of_none

theorem ifaceReset (lineEnable : Bool) : Statement (.ifaceReset lineEnable) :=
  of_none

theorem lineEnable (on : Bool) : Statement (.lineEnable on) :=
  of_none

theorem noticeClear (value : Word) : Statement (.noticeClear value) :=
  of_none

theorem noticeMaskWrite (value : Word) : Statement (.noticeMaskWrite value) :=
  of_none

theorem presenceWrite (value : Word) : Statement (.presenceWrite value) :=
  of_none

theorem changeSummaryClear (index : Nat) (value : Word) : Statement (.changeSummaryClear index value) :=
  of_one (isSummaryWord_iff index)

theorem commit (slot : Nat) : Statement (.commit slot) :=
  of_one (isSlot_iff slot)

theorem withdrawal (slot : Nat) : Statement (.withdrawal slot) :=
  of_one (isSlot_iff slot)

theorem giveBack (slot : Nat) : Statement (.giveBack slot) :=
  of_one (isSlot_iff slot)

theorem hostWrite (offset : BitVec 15) (size : AccessSize) (value : Word) : Statement (.hostWrite offset size value) :=
  of_none

theorem take : Statement (.take) :=
  of_none

theorem cancel : Statement (.cancel) :=
  of_none

theorem acknowledge : Statement (.acknowledge) :=
  of_none

theorem silence : Statement (.silence) :=
  of_none

theorem resound : Statement (.resound) :=
  of_none

theorem evacuate : Statement (.evacuate) :=
  of_none

theorem resetSite : Statement (.resetSite) :=
  of_none

theorem isolateZone : Statement (.isolateZone) :=
  of_none

theorem restoreZone : Statement (.restoreZone) :=
  of_none

theorem testZone : Statement (.testZone) :=
  of_none

theorem setRegime : Statement (.setRegime) :=
  of_none

theorem startLoop : Statement (.startLoop) :=
  of_none

theorem stopLoop : Statement (.stopLoop) :=
  of_none

theorem isolateDevice : Statement (.isolateDevice) :=
  of_none

theorem restoreDevice : Statement (.restoreDevice) :=
  of_none

theorem passDoor : Statement (.passDoor) :=
  of_none

theorem holdDoor : Statement (.holdDoor) :=
  of_none

theorem releaseHold : Statement (.releaseHold) :=
  of_none

theorem lockdown : Statement (.lockdown) :=
  of_none

theorem endLockdown : Statement (.endLockdown) :=
  of_none

theorem clearPull : Statement (.clearPull) :=
  of_none

theorem isolateDoor : Statement (.isolateDoor) :=
  of_none

theorem restoreDoor : Statement (.restoreDoor) :=
  of_none

theorem attendCall : Statement (.attendCall) :=
  of_none

theorem closeCall : Statement (.closeCall) :=
  of_none

theorem setCallLevel : Statement (.setCallLevel) :=
  of_none

theorem barRoute : Statement (.barRoute) :=
  of_none

theorem unbarRoute : Statement (.unbarRoute) :=
  of_none

theorem testLights : Statement (.testLights) :=
  of_none

theorem stopTest : Statement (.stopTest) :=
  of_none

theorem commitPlan : Statement (.commitPlan) :=
  of_none

theorem copyPlan : Statement (.copyPlan) :=
  of_none

theorem validationEnd : Statement (.validationEnd) :=
  of_none

theorem sequenceCalmReport : Statement (.sequenceCalmReport) :=
  of_none

theorem testEndedReport : Statement (.testEndedReport) :=
  of_none

theorem activation : Statement (.activation) :=
  of_none

theorem callOut (loop : Nat) (shortA : Bool) (shortB : Bool) : Statement (.callOut loop shortA shortB) :=
  of_one (isLoop_iff loop)

theorem answer (loop : Nat) (segment : Segment) (addr : Nat) (atA : Option AnswerContent) (atB : Option AnswerContent) :
    Statement (.answer loop segment addr atA atB) := by
  show ((isLoop loop && isAddress addr) = true ↔ ∀ r ∈ [(0, 3, loop), (1, 96, addr)], r.1 ≤ r.2.2 ∧ r.2.2 ≤ r.2.1)
  rw [Bool.and_eq_true, isLoop_iff, isAddress_iff, List.forall_mem_cons, List.forall_mem_singleton]

theorem sweepEnd (loop : Nat) : Statement (.sweepEnd loop) :=
  of_one (isLoop_iff loop)

theorem releaseBroadcast (loop : Nat) (shortA : Bool) (shortB : Bool) : Statement (.releaseBroadcast loop shortA shortB) :=
  of_one (isLoop_iff loop)

theorem keyInputChange (key : Nat) (operated : Bool) : Statement (.keyInputChange key operated) :=
  of_one (isKey_iff key)

theorem keyFilterExpiry (key : Nat) : Statement (.keyFilterExpiry key) :=
  of_one (isKey_iff key)

theorem tAckExpiry : Statement (.tAckExpiry) :=
  of_none

theorem tSearchExpiry : Statement (.tSearchExpiry) :=
  of_none

theorem phaseTimerExpiry (area : Nat) : Statement (.phaseTimerExpiry area) :=
  of_one (isArea_iff area)

theorem closingTimerExpiry (area : Nat) : Statement (.closingTimerExpiry area) :=
  of_one (isArea_iff area)

theorem presenceTimerExpiry : Statement (.presenceTimerExpiry) :=
  of_none

theorem callAgeing (entry : Nat) : Statement (.callAgeing entry) :=
  of_one (isCallEntry_iff entry)

theorem returnHoldExpiry (zone : Nat) : Statement (.returnHoldExpiry zone) :=
  of_one (isZone_iff zone)

theorem passExpiry (door : Nat) : Statement (.passExpiry door) :=
  of_one (isDoor_iff door)

theorem doorHoldTimerExpiry (door : Nat) : Statement (.doorHoldTimerExpiry door) :=
  of_one (isDoor_iff door)

theorem lockSenseTimerExpiry (door : Nat) : Statement (.lockSenseTimerExpiry door) :=
  of_one (isDoor_iff door)

theorem closeTimerExpiry (door : Nat) : Statement (.closeTimerExpiry door) :=
  of_one (isDoor_iff door)

theorem rechargeExpiry (circuit : Nat) : Statement (.rechargeExpiry circuit) :=
  of_one (isCircuit_iff circuit)

theorem testEndTime : Statement (.testEndTime) :=
  of_none

theorem uptimeTick : Statement (.uptimeTick) :=
  of_none

theorem zoneAlarmMessage : Statement (.zoneAlarmMessage) :=
  of_none

theorem effectivePhaseMessage : Statement (.effectivePhaseMessage) :=
  of_none

theorem doorConditionMessage : Statement (.doorConditionMessage) :=
  of_none

theorem evacClaimRequest : Statement (.evacClaimRequest) :=
  of_none

end Sys2Proof.Laws.Ranges
end

