-- ==== Sys2Proof/Tests/Slice0.lean ====
section
/-!
SUPPORT. Tests of the model: what the well-formedness check refuses, one small test or two of each command on a small site, and, for every
statement that has hypotheses, a witness: a state and operands that meet them all.
-/

namespace Sys2Proof.Machine.Tests

set_option Elab.async false

/-! ### The site the tests run on -/

/-- A plan, its header left out (only validation reads it): areas 0 and 1 (zones 1 and 2), zones 1 to 3, on loop 0 a detector, a break-glass contact, a sounder, two doors, a help
point, a sign, two lamps and two more detectors (zone 2, coincidence by day); doors 1 (PUBLIC) and 2 (FIRE), help point 1, routes 1 and 2, sign 1
and circuits 1 and 2. -/
def siteMem : Memory :=
  [(0x2840, 10#8), (0x2844, 30#8), (0x2848, 5#8), (0x284C, 30#8), (0x2850, 10#8), (0x2854, 1#8), (0x2858, 3#8), (0x285C, 2#8),
    (0x2864, 2#8), (0x2AC0, 1#8), (0x2AC1, 60#8), (0x2AC4, 2#8), (0x2AC6, 192#8), (0x2AC7, 3#8), (0x2AC8, 1#8), (0x2AC9, 1#8),
    (0x2ACA, 40#8), (0x2ACC, 1#8), (0x2ACE, 192#8), (0x2ACF, 3#8), (0x2B80, 3#8), (0x2B84, 1#8), (0x2B85, 2#8), (0x2B90, 5#8),
    (0x2BA0, 1#8)]
  ++
  [(0x3300, 1#8), (0x3301, 1#8), (0x3303, 1#8), (0x3304, 60#8), (0x3305, 140#8), (0x3306, 110#8), (0x3308, 2#8), (0x3309, 1#8),
    (0x3310, 7#8), (0x3311, 1#8), (0x3318, 3#8), (0x3319, 1#8), (0x3320, 3#8), (0x3321, 1#8), (0x3328, 4#8), (0x3329, 1#8),
    (0x3330, 5#8), (0x3331, 1#8), (0x3338, 6#8), (0x3339, 1#8), (0x3340, 6#8), (0x3341, 1#8), (0x3348, 1#8), (0x3349, 2#8),
    (0x334B, 1#8), (0x334C, 60#8), (0x334D, 140#8), (0x334E, 110#8), (0x3350, 1#8), (0x3351, 2#8), (0x3353, 1#8),
    (0x3354, 60#8), (0x3355, 140#8), (0x3356, 110#8)]
  ++
  [(0x3F00, 1#8), (0x3F01, 2#8), (0x3F02, 3#8), (0x3F03, 4#8), (0x3F04, 5#8), (0x3F05, 6#8), (0x3F06, 7#8), (0x3F07, 8#8),
    (0x3F08, 9#8), (0x3F09, 10#8), (0x3F0A, 11#8), (0x4080, 1#8), (0x4081, 1#8), (0x4083, 4#8), (0x4084, 8#8), (0x4086, 10#8),
    (0x4088, 2#8), (0x408A, 2#8), (0x408B, 1#8), (0x4090, 4#8), (0x4091, 1#8), (0x4093, 5#8), (0x4094, 8#8), (0x4096, 10#8),
    (0x4098, 1#8), (0x4099, 2#8), (0x409A, 1#8), (0x409B, 1#8), (0x409C, 5#8), (0x4480, 1#8), (0x4481, 1#8), (0x4483, 6#8),
    (0x4484, 2#8)]
  ++
  [(0x4700, 1#8), (0x4701, 1#8), (0x4710, 1#8), (0x4711, 2#8), (0x4A00, 1#8), (0x4A02, 7#8), (0x4A03, 1#8), (0x4A08, 1#8),
    (0x4A09, 1#8), (0x4A0A, 2#8), (0x4A0B, 2#8), (0x4E00, 1#8), (0x4E02, 8#8), (0x4E04, 1#8), (0x4E10, 1#8), (0x4E12, 9#8),
    (0x4E14, 1#8)]

/-- The site, its plan active in bank A, every device OK, the host attached, second 100. -/
def site : State :=
  { State.reset with
    mem := siteMem
    ps := { Ps.reset with active := some .a }
    xp := { Xp.reset with seconds := 100, attach := .attached, presenceEnd := some 105 }
    za :=
      { Za.reset with
        zones := (Table.fill .zero).map (fun z x => if z ≤ 3 then { x with cond := .quiet } else x)
        doorCond := (Table.fill .none).set 1 .free }
    lc :=
      { loops := (Table.fill .zero).set 0 { Loop.zero with state := .ring }
        devices := (Table.fill .zero).map (fun i x => if i ≤ 11 then { x with cond := .ok } else x) }
    du :=
      { Du.reset with
        doors := ((Table.fill .zero).set 1 { Door.zero with cond := .free }).set 2
          { Door.zero with cmdLocked := true, holderOn := true, cond := .free } }
    cu :=
      { Cu.reset with
        sources := ((Table.fill .zero).set 1 { Source.zero with base := 2 }).set 81 { Source.zero with base := 1 }
        helps := (Table.fill .zero).set 1 { HelpPoint.zero with settle := false, indicator := some .off } }
    rl :=
      { Rl.reset with
        routes := ((Table.fill .zero).set 1 { Route.zero with usable := true }).set 2 { Route.zero with usable := true }
        zones := (Table.fill .zero).set 1 { RouteZone.zero with selection := .route 1 }
        doorCond := ((Table.fill .none).set 1 .free).set 2 .free
        signs := (Table.fill .zero).set 1 { indication := .left, flash := false }
        circuits := ((Table.fill .zero).set 1 { Circuit.zero with state := .normal }).set 2 { Circuit.zero with state := .normal } } }

/-- The site with a smaller plan, which the tests of zones and areas run faster on: the areas, zones 1 and 2, the detector, the contact and the sounder. -/
def alarmSite : State :=
  { State.reset with
    mem :=
      [(0x2840, 10#8), (0x2844, 30#8), (0x2848, 5#8), (0x285C, 2#8), (0x2AC0, 1#8), (0x2AC1, 60#8), (0x2AC4, 2#8), (0x2AC6, 192#8), (0x2AC7, 3#8),
        (0x2AC8, 1#8), (0x2AC9, 1#8), (0x2ACA, 40#8), (0x2ACC, 1#8), (0x2ACE, 192#8), (0x2ACF, 3#8), (0x2B80, 3#8), (0x2B90, 5#8),
        (0x3300, 1#8), (0x3301, 1#8), (0x3303, 1#8), (0x3304, 60#8), (0x3305, 140#8), (0x3308, 2#8), (0x3309, 1#8), (0x3310, 7#8),
        (0x3311, 1#8), (0x3F00, 1#8), (0x3F01, 2#8), (0x3F02, 3#8)]
    ps := site.ps
    xp := site.xp
    za := { site.za with zones := (Table.fill .zero).map (fun z x => if z ≤ 2 then { x with cond := .quiet } else x) }
    lc :=
      { loops := (Table.fill .zero).set 0 { Loop.zero with state := .ring }
        devices := (Table.fill .zero).map (fun i x => if i ≤ 3 then { x with cond := .ok } else x) } }

/-- OU works on order `o`, which slot 0 holds. -/
def working (o : Order) (s : State) : State :=
  (s.setSlot 0 (fun x => { x with handover := .taken, tag := 7 })).onOu (fun ou =>
    { ou with working := some { slot := some 0, order := o, tag := 7 } })

/-- An order of `owner` is held in slot 1. -/
def holding (owner : HeldOwner) (s : State) : State :=
  (s.setSlot 1 (fun x => { x with handover := .taken })).onOu (fun ou => { ou with held := [{ slot := 1, owner := owner }] })

/-- The command answers a next state of which `p` holds. -/
def gives (i : Instr) (s : State) (p : State → Bool) : Bool :=
  match exec i s with
  | .next t => p t
  | _ => false

/-- OU's order of slot 0 has completed with `code`. -/
def ended (code : Completion) (t : State) : Bool :=
  (t.slot 0).handover = .done && (t.slot 0).completion = code && t.ou.working.isNone

/-! ### Well-formedness: each check refuses an ill-formed term -/

theorem test_wf_slot : (Instr.commit 23).wellFormed = true ∧ (Instr.commit 24).wellFormed = false
    ∧ (Instr.withdrawal 24).wellFormed = false ∧ (Instr.giveBack 24).wellFormed = false := by decide

theorem test_wf_summaryWord : (Instr.changeSummaryClear 26 0).wellFormed = true ∧ (Instr.changeSummaryClear 27 0).wellFormed = false := by
  decide

theorem test_wf_loop : (Instr.sweepEnd 3).wellFormed = true ∧ (Instr.sweepEnd 4).wellFormed = false
    ∧ (Instr.callOut 4 false false).wellFormed = false ∧ (Instr.releaseBroadcast 4 false false).wellFormed = false := by decide

theorem test_wf_address : (Instr.answer 0 .rollCall 96 none none).wellFormed = true
    ∧ (Instr.answer 0 .rollCall 97 none none).wellFormed = false ∧ (Instr.answer 0 .rollCall 0 none none).wellFormed = false
    ∧ (Instr.answer 4 .rollCall 1 none none).wellFormed = false := by decide

theorem test_wf_key : (Instr.keyFilterExpiry 4).wellFormed = true ∧ (Instr.keyFilterExpiry 5).wellFormed = false
    ∧ (Instr.keyInputChange 0 true).wellFormed = false := by decide

theorem test_wf_area : (Instr.phaseTimerExpiry 23).wellFormed = true ∧ (Instr.phaseTimerExpiry 24).wellFormed = false
    ∧ (Instr.closingTimerExpiry 24).wellFormed = false := by decide

theorem test_wf_callEntry : (Instr.callAgeing 31).wellFormed = true ∧ (Instr.callAgeing 32).wellFormed = false := by decide

theorem test_wf_zone : (Instr.returnHoldExpiry 120).wellFormed = true ∧ (Instr.returnHoldExpiry 0).wellFormed = false
    ∧ (Instr.returnHoldExpiry 121).wellFormed = false := by decide

theorem test_wf_door : (Instr.passExpiry 64).wellFormed = true ∧ (Instr.passExpiry 0).wellFormed = false
    ∧ (Instr.doorHoldTimerExpiry 65).wellFormed = false ∧ (Instr.lockSenseTimerExpiry 65).wellFormed = false
    ∧ (Instr.closeTimerExpiry 65).wellFormed = false := by decide

theorem test_wf_circuit : (Instr.rechargeExpiry 32).wellFormed = true ∧ (Instr.rechargeExpiry 33).wellFormed = false
    ∧ (Instr.rechargeExpiry 0).wellFormed = false := by decide

/-! ### The host's commands -/

/-- After a cold reset the site is rest: no plan, the zone UNPLANNED, the order gone. -/
theorem test_coldReset : gives .coldReset (working .acknowledge site) (fun t =>
    t.ps.active.isNone && (t.zone 1).cond = .unplanned && t.ou.working.isNone && t.xp.seconds = 0) = true := by decide +kernel

theorem test_ifaceReset : gives (.ifaceReset true) (working .acknowledge alarmSite) (fun t =>
    (t.slot 0).handover = .free && t.ou.working = some { slot := none, order := .acknowledge, tag := 7 } && t.ps.active = some .a
      && t.xp.presenceEnd = some 105) = true := by decide +kernel

theorem test_lineEnable : gives (.lineEnable true) site (fun t => t.xp.lineEnable && t.xp.presenceEnd = some 105) = true := by decide +kernel

theorem test_noticeClear : ((State.reset.onXp (fun xp => { xp with notice := 3 })).serveWord 0x7FE8#15 2#32).xp.notice = 1 := by
  decide +kernel

theorem test_noticeMaskWrite : gives (.noticeMaskWrite 0x1FF#32) State.reset (fun t => t.xp.mask = 0xFF#8) = true := by decide +kernel

theorem test_presenceWrite : gives (.presenceWrite 0#32) (site.onXp (fun xp => { xp with attach := .detached, presenceEnd := none })) (fun t =>
    t.xp.attach = .attached && t.xp.presenceEnd = some 105) = true := by decide +kernel

theorem test_changeSummaryClear : gives (.changeSummaryClear 26 1#32)
    (State.reset.onXp (fun xp => { xp with summary := (Table.fill 0).set 26 3#32 })) (fun t => t.xp.summary.get 26 = 2#32) = true := by
  decide +kernel

theorem test_commit : gives (.commit 23) State.reset (fun t => (t.slot 23).handover = .committed && t.ou.queue = [23]) = true := by decide +kernel

/-- An URGENT order goes behind the URGENT orders that wait and before the others. -/
theorem test_commit_urgent : gives (.commit 5)
    ((State.reset.setSlot 5 (fun x => { x with urgent := true })).onOu (fun ou =>
      { ou with slots := ou.slots.modify 2 (fun x => { x with handover := .committed, urgent := true }), queue := [2, 3] }))
    (fun t => t.ou.queue = [2, 5, 3]) = true := by decide +kernel

theorem test_withdrawal : gives (.withdrawal 3)
    ((State.reset.setSlot 3 (fun x => { x with handover := .committed })).onOu (fun ou => { ou with queue := [2, 3, 4] }))
    (fun t => (t.slot 3).handover = .free && t.ou.queue = [2, 4]) = true := by decide +kernel

theorem test_giveBack : gives (.giveBack 3) (State.reset.setSlot 3 (fun x => { x with handover := .done })) (fun t =>
    (t.slot 3).handover = .free) = true := by decide +kernel

/-- Bytes of a plan word, least significant lowest. -/
theorem test_hostWrite_bank : gives (.hostWrite 0x2800#15 .word 0x08400001#32) State.reset (fun t =>
    t.mem = [(0x2800, 1#8), (0x2802, 0x40#8), (0x2803, 8#8)]) = true := by decide +kernel

/-- A half-word write is refused with reason SIZE and counted. -/
theorem test_hostWrite_size : gives (.hostWrite 0x2800#15 .half 1#32) State.reset (fun t =>
    t.mem = [] && t.xp.capture = { reason := some .size, offset := 0x2800, value := 1, count := 1 }) = true := by decide +kernel

/-! ### Orders -/

theorem test_take : gives .take
    ((State.reset.setSlot 4 (fun x => { x with handover := .committed, code := 0x60, argCount := 1, tag := 9, args := (Table.fill 0).set 0 2 })).onOu
      (fun ou => { ou with queue := [4, 6] }))
    (fun t => (t.slot 4).handover = .taken && t.ou.queue = [6]
      && t.ou.working = some { slot := some 4, order := .commitPlan true, tag := 9 }) = true := by decide +kernel

theorem test_take_malformed : gives .take
    ((State.reset.setSlot 4 (fun x => { x with handover := .committed, code := 0x60, tag := 9 })).onOu (fun ou => { ou with queue := [4] }))
    (fun t => (t.slot 4).handover = .done && (t.slot 4).completion = .malformed && (t.slot 4).doneTag = 9 && t.ou.queue = []) = true := by
  decide +kernel

theorem test_cancel : gives .cancel (holding .plan (working (.cancel 1) (State.reset.onPs (fun ps => { ps with staged := .waiting })))) (fun t =>
    ended .ok t && (t.slot 1).completion = .cancelled && t.ps.staged = .edit && t.ou.held = []) = true := by decide +kernel

theorem test_cancel_own : gives .cancel (working (.cancel 0) State.reset) (ended .malformed) = true := by decide +kernel

theorem test_acknowledge : gives .acknowledge (working .acknowledge (alarmSite.onZa (fun za => { za with seq := .awaitAck, first := [1] }))) (fun t =>
    ended .ok t && t.za.seq = .searching && t.za.siteEnd = some 130) = true := by decide +kernel

set_option maxRecDepth 1000000 in
theorem test_silence : gives .silence (working .silence (alarmSite.onZa (fun za => { za with seq := .general }))) (fun t =>
    ended .ok t && t.za.silenced && (t.device 3).handed = some 0) = true := by decide +kernel

set_option maxRecDepth 1000000 in
theorem test_resound : gives .resound (working .resound ((alarmSite.onZa (fun za => { za with seq := .general, silenced := true })).setZone 1 (fun x =>
      { x with phase := .alert }))) (fun t =>
    ended .ok t && !t.za.silenced && (t.device 3).handed = some 1) = true := by decide +kernel

set_option maxRecDepth 1000000 in
/-- EVACUATE of area 1 moves it alone, and the effective phase of its zones. -/
theorem test_evacuate : gives .evacuate (working (.evacuate (some 1)) alarmSite) (fun t =>
    ended .ok t && t.za.seq = .general && (t.area 1).phase = .evacuate && (t.area 0).phase = .none && (t.zone 1).phase = .evacuate
      && (t.zone 2).phase = .evacuate) = true := by decide +kernel

set_option maxRecDepth 1000000 in
theorem test_resetSite : gives .resetSite
    (working .resetSite ((alarmSite.onZa (fun za => { za with seq := .general, first := [1] })).setZone 1 (fun x => { x with cond := .alarm })))
    (fun t => ended .ok t && t.za.seq = .calm && t.za.first = [] && t.ps.calmReports = 1) = true := by decide +kernel

set_option maxRecDepth 1000000 in
/-- In CALM with a latch in an ISOLATED zone nothing of ZA's changes but the latch, and NOTICE.SITE is raised all the same. -/
theorem test_resetSite_calm :
    let s := ((alarmSite.setZone 1 (fun x => { x with cond := .isolated })).setDetector 1 (fun x => { x with latched := true })).resetSite
    (s.detector 1).latched = false ∧ (s.zone 1).cond = .isolated ∧ s.xp.notice.getLsbD 1 = true := by decide +kernel

theorem test_isolateZone : gives .isolateZone (working (.isolateZone 2) alarmSite) (fun t => ended .ok t && (t.zone 2).cond = .isolated) = true := by
  decide +kernel

set_option maxRecDepth 1000000 in
/-- A contact in ALARM when its zone is restored: the zone enters ALARM, cause MANUAL, and the site goes to GENERAL. -/
theorem test_restoreZone_alarm : gives .restoreZone
    (working (.restoreZone 1) ((alarmSite.setZone 1 (fun x => { x with cond := .test })).setDetector 2 (fun x => { x with state := .alarm }))) (fun t =>
    ended .ok t && (t.zone 1).cond = .alarm && (t.zone 1).cause = .manual && t.za.seq = .general && t.za.first = [1]
      && (t.detector 2).latched) = true := by decide +kernel

theorem test_testZone : gives .testZone (working (.testZone 3) (site.setZone 3 (fun x => { x with testCount := 5 }))) (fun t =>
    ended .ok t && (t.zone 3).cond = .test && (t.zone 3).testCount = 0) = true := by decide +kernel

/-- Toward NIGHT area 1 closes, with its timeout: door 1 is not SECURE. -/
theorem test_setRegime : gives .setRegime (working (.setRegime 1 true) site) (fun t =>
    ended .ok t && (t.area 1).closingEnd = some 160 && (t.slot 0).results.get 1 = 1#32) = true := by decide +kernel

theorem test_startLoop : gives .startLoop (working (.startLoop 0) (alarmSite.setLoop 0 (fun x => { x with state := .failed }))) (fun t =>
    (t.loop 0).state = .rollcall && (t.device 1).cond = .waiting && t.ou.held = [{ slot := 0, owner := .loop 0 }]) = true := by decide +kernel

/-- Loop 0 with its device 2 WAITING, as in a roll-call, and its device 3 ISOLATED. -/
def stopping : State :=
  working (.stopLoop 0) ((alarmSite.setDevice 2 (fun x => { x with cond := .waiting })).setDevice 3 (fun x => { x with cond := .isolated }))

/-- Loop 0 IDLE and device 1 WAITING; the record of device 2, WAITING before, is rewritten as it was; those of the ISOLATED device and of an unplanned
address are not (R39). -/
def stoppedRewritten (t : State) : Bool :=
  ended .ok t && (t.loop 0).state = .idle && (t.device 1).cond = .waiting && t.recordBody 145 = stopping.recordBody 145
    && [144, 145, 146, 147, 848, 849].map t.xp.counts.get = [2, 2, 0, 0, 2, 0]

theorem test_stopLoop : gives .stopLoop stopping stoppedRewritten = true := by decide +kernel

/-- A device that leaves MISSING has its recovery count at 0. -/
theorem test_stopLoop_missing : gives .stopLoop (working (.stopLoop 0) (alarmSite.setDevice 1 (fun x => { x with cond := .missing, recovery := 1 })))
    (fun t => (t.device 1).cond = .waiting && (t.device 1).recovery = 0) = true := by decide +kernel

theorem test_isolateDevice : gives .isolateDevice (working (.isolateDevice 0 1) site) (fun t =>
    ended .ok t && (t.device 1).cond = .isolated) = true := by decide +kernel

/-- A door device cannot be isolated. -/
theorem test_isolateDevice_door : gives .isolateDevice (working (.isolateDevice 0 4) site) (ended .refusedState) = true := by decide +kernel

theorem test_restoreDevice : gives .restoreDevice (working (.restoreDevice 0 3) (site.setDevice 3 (fun x =>
      { x with cond := .isolated, handed := some 2 }))) (fun t =>
    ended .ok t && (t.device 3).cond = .waiting && (t.device 3).output = some 2) = true := by decide +kernel

theorem test_passDoor : gives .passDoor (working (.passDoor 1 0) site) (fun t => ended .ok t && (t.door 1).pass = some 108) = true := by
  decide +kernel

theorem test_holdDoor : gives .holdDoor (working (.holdDoor 1 true) site) (fun t =>
    ended .ok t && (t.door 1).cmdLocked && (t.device 4).handed = some 1) = true := by decide +kernel

theorem test_releaseHold : gives .releaseHold (working (.releaseHold 1) (site.setDoor 1 (fun x => { x with hold := some true, cmdLocked := true })))
    (fun t => ended .ok t && (t.door 1).hold.isNone && !(t.door 1).cmdLocked) = true := by decide +kernel

/-- The PUBLIC door takes the claim, the FIRE door is passed by. -/
theorem test_lockdown : gives .lockdown (working (.lockdown 1) site) (fun t =>
    ended .ok t && (t.door 1).lockdown && (t.door 1).cmdLocked && !(t.door 2).lockdown && (t.device 4).handed = some 1) = true := by decide +kernel

theorem test_endLockdown : gives .endLockdown (working (.endLockdown 0) (site.setDoor 1 (fun x => { x with lockdown := true, cmdLocked := true })))
    (fun t => ended .ok t && !(t.door 1).lockdown && !(t.door 1).cmdLocked) = true := by decide +kernel

theorem test_clearPull : gives .clearPull (working (.clearPull 1) (site.setDoor 1 (fun x => { x with pull := true }))) (fun t =>
    ended .ok t && !(t.door 1).pull) = true := by decide +kernel

theorem test_isolateDoor : gives .isolateDoor (working (.isolateDoor 2) site) (fun t =>
    ended .ok t && (t.door 2).cond = .isolated && t.mail.duOut = [(2, .isolated)]) = true := by decide +kernel

theorem test_restoreDoor : gives .restoreDoor (working (.restoreDoor 2) (site.setDoor 2 (fun x => { x with isolated := true, cond := .isolated })))
    (fun t => ended .ok t && (t.door 2).cond = .free && !(t.door 2).settle) = true := by decide +kernel

/-- A call of source 81 (door 1), offered, in entry 0. -/
def oneCall : Call :=
  { entry := 0, serial := 9, source := 81, zone := 1, level := 1, reason := .held, state := .offered, admitted := 50, lastRaise := 50,
    repeats := 0, aged := false, inAlarm := false, stranded := false }

/-- The site with that call. -/
def calling : State := site.onCu (fun cu => { cu with calls := [oneCall], serial := 9 })

theorem test_attendCall : gives .attendCall (working (.attendCall 9) calling) (fun t =>
    ended .ok t && t.cu.calls = [{ oneCall with state := .attended }]) = true := by decide +kernel

theorem test_closeCall : gives .closeCall (working (.closeCall 9) calling) (fun t => ended .ok t && t.cu.calls = []) = true := by decide +kernel

theorem test_setCallLevel : gives .setCallLevel (working (.setCallLevel 81 3) calling) (fun t =>
    ended .ok t && (t.cu.sources.get 81).base = 3 && t.cu.calls.map Call.level = [3]) = true := by decide +kernel

theorem test_barRoute : gives .barRoute (working (.barRoute 1) site) (fun t =>
    ended .ok t && (t.rl.zones.get 1).selection = .route 2 && (t.rl.routes.get 1).cause = .barred && !(t.rl.routes.get 1).usable
      && (t.rl.signs.get 1).indication = .right && (t.device 7).handed = some (t.rl.signs.get 1).output) = true := by decide +kernel

/-- Route 1 is zone 1's last usable one in EVACUATE: barring it leaves the zone STRANDED. -/
theorem test_barRoute_stranded : gives .barRoute (working (.barRoute 1) (site.onRl (fun rl =>
      { rl with
        routes := rl.routes.set 2 { bar := true, usable := false, cause := .barred }
        zones := rl.zones.set 1 { RouteZone.zero with selection := .route 1, phase := .evacuate } }))) (fun t =>
    (t.rl.zones.get 1).selection = .refuge && (t.rl.zones.get 1).stranded && t.cu.zoneStranded.get 1) = true := by decide +kernel

/-- Route 1 is usable again: the zone stays on route 2 and the return hold runs. -/
theorem test_unbarRoute : gives .unbarRoute (working (.unbarRoute 1) (site.onRl (fun rl =>
      { rl with
        routes := rl.routes.set 1 { bar := true, usable := false, cause := .barred }
        zones := rl.zones.set 1 { RouteZone.zero with selection := .route 2 } }))) (fun t =>
    ended .ok t && (t.rl.zones.get 1).selection = .route 2 && (t.rl.zones.get 1).candidate = some 1
      && (t.rl.zones.get 1).holdEnd = some 110) = true := by decide +kernel

theorem test_testLights : gives .testLights (working (.testLights false 1#32 0) site) (fun t =>
    t.ou.held = [{ slot := 0, owner := .lights }] && t.rl.test.map LightTest.ending = some 160
      && (t.rl.circuits.get 1).state = .functionTest && (t.device 8).handed = some 2) = true := by decide +kernel

/-- Both lamps serve zone 1: a duration test of both would leave it none. -/
theorem test_testLights_cover : gives .testLights (working (.testLights true 3#32 1) site) (ended .refusedCover) = true := by decide +kernel

/-- A function test of circuit 1, which ends at second 90. -/
def oneTest : LightTest := { duration := false, start := 30, ending := 90, circuits := [1], passMask := 0, failMask := 0 }

/-- The site with that test. -/
def testing : State :=
  site.onRl (fun rl =>
    { rl with test := some oneTest, circuits := rl.circuits.set 1 { Circuit.zero with state := .functionTest } })

theorem test_stopTest : gives .stopTest (holding .lights (working .stopTest testing)) (fun t =>
    ended .ok t && t.rl.test.isNone && (t.rl.circuits.get 1).result = .aborted && (t.slot 1).completion = .cancelled
      && t.ps.testReports = 1 && (t.device 8).handed = some 0) = true := by decide +kernel

/-! ### The plan store -/

theorem test_commitPlan : gives .commitPlan (working (.commitPlan true) site) (fun t =>
    t.ps.staged = .checking && t.ps.deferred && t.ou.held = [{ slot := 0, owner := .plan }]) = true := by decide +kernel

theorem test_copyPlan : gives .copyPlan
    (working .copyPlan { State.reset with mem := [(0x2804, 7#8), (0x5004, 5#8)], ps := { Ps.reset with active := some .a } }) (fun t =>
    ended .ok t && t.mem = [(0x2804, 7#8), (0x5004, 7#8)]) = true := by decide +kernel

/-- An empty bank has no format mark: check 1 fails at index 0. -/
theorem test_validationEnd : gives .validationEnd (holding .plan (State.reset.onPs (fun ps => { ps with staged := .checking, lastCheck := 9 }))) (fun t =>
    t.ps.staged = .edit && t.ps.lastCheck = 1 && t.ps.lastIndex = 0 && (t.slot 1).completion = .invalidPlan
      && (t.slot 1).results.get 1 = 1#32) = true := by decide +kernel

/-- A report that finds a test still held leaves the commit WAITING. -/
theorem test_sequenceCalmReport : gives .sequenceCalmReport (testing.onPs (fun ps => { ps with staged := .waiting, calmReports := 2 })) (fun t =>
    t.ps.staged = .waiting && t.ps.calmReports = 1 && t.ps.active = some .a) = true := by decide +kernel

set_option maxRecDepth 1000000 in
/-- An unplanned site: the waiting commit activates and the roles swap. -/
theorem test_testEndedReport : gives .testEndedReport (holding .plan (State.reset.onPs (fun ps => { ps with staged := .waiting, testReports := 1 })))
    (fun t => t.ps.staged = .edit && t.ps.testReports = 0 && t.ps.active = some .a && (t.slot 1).completion = .ok) = true := by decide +kernel

set_option maxRecDepth 1000000 in
/-- Activation takes up the new plan: bank A's zones become QUIET. -/
theorem test_activation : gives .activation ({ State.reset with mem := alarmSite.mem, ps := { Ps.reset with staged := .waiting } }) (fun t =>
    t.ps.active = some .a && (t.zone 2).cond = .quiet && t.xp.attach = .attached) = true := by decide +kernel

/-! ### Loops -/

theorem test_callOut : gives (.callOut 0 true false) site (fun t =>
    (t.loop 0).next = 1 && (t.loop 0).endADown && ((t.loop 0).sweep.map (fun w => w.polls.length)) = some 11) = true := by decide +kernel

/-- The small site with loop 0 in a regular sweep that polls its three devices. -/
def sweeping : State :=
  alarmSite.setLoop 0 (fun x =>
    { x with
      sweep := some
        { census := false, openUsed := 0
          polls := (List.range' 1 3).map (fun a => { addr := a, sent := none, heardA := false, heardB := false, taken := false }) } })

/-- A detector above its alarm threshold with confirm count 1, investigation allowed: its zone enters ALARM and waits for acknowledgement. -/
theorem test_answer_detector : gives
    (.answer 0 .rollCall 1 (some ⟨.detector, false, 0, 200⟩) (some ⟨.detector, false, 0, 200⟩)) sweeping (fun t =>
    (t.detector 1).state = .alarm && (t.zone 1).cond = .alarm && (t.zone 1).cause = .detector && t.za.seq = .awaitAck
      && t.za.siteEnd = some 110) = true := by decide +kernel

/-- The copies differ: a disagreement, and nothing is taken. -/
theorem test_answer_disagreement : gives
    (.answer 0 .rollCall 1 (some ⟨.detector, false, 0, 200⟩) (some ⟨.detector, false, 0, 10⟩)) sweeping (fun t =>
    (t.loop 0).disagree = 1 && (t.detector 1).state = .normal && (t.device 1).value = 0) = true := by decide +kernel

/-- No poll was heard: every device misses once, and the first DEAD sweep leaves the loop in RING. -/
theorem test_sweepEnd : gives (.sweepEnd 0) sweeping (fun t =>
    (t.loop 0).sweep.isNone && (t.loop 0).state = .ring && (t.loop 0).worse = { count := 1, bound := .dead } && (t.device 3).miss = 1
      && (t.device 4).miss = 0) = true := by decide +kernel

/-- Loop 0 of the small site after one SPLIT sweep, or in its census sweep: end A hears devices 1 and 2, end B device 3. -/
def cut (census : Bool) : State :=
  alarmSite.setLoop 0 (fun x =>
    { x with
      state := if census then .rollcall else .ring
      attempt := 1
      worse := { count := 1, bound := .split }
      sweep := some
        { census := census, openUsed := 0
          polls := [⟨1, none, true, false, true⟩, ⟨2, none, true, false, true⟩, ⟨3, none, false, true, true⟩] } })

/-- The loop is cut between devices 2 and 3. -/
theorem test_sweepEnd_break : ∀ census ∈ [true, false], gives (.sweepEnd 0) (cut census) (fun t =>
    (t.loop 0).state = .split && (t.loop 0).breakA = 2 && (t.loop 0).breakB = 3) = true := by decide +kernel

/-- Loop 0 of the small site, one DEAD sweep on, fails with the next: a device that is not MISSING goes with it. -/
theorem test_sweepEnd_failed : gives (.sweepEnd 0) (sweeping.setLoop 0 (fun x => { x with worse := { count := 1, bound := .dead } })) (fun t =>
    (t.loop 0).state = .failed && (t.device 3).cond = .missing) = true := by decide +kernel

/-- Loop 0 of the site in a census sweep in which it hears nothing, something having been heard before; device 2 in condition `cond`, missed once. -/
def counting (attempt : Nat) (cond : DeviceCond) : State :=
  holding (.loop 0) ((site.setLoop 0 (fun x =>
    { x with
      state := .rollcall, attempt := attempt, rollHeard := true
      sweep := some { census := true, openUsed := 0, polls := [⟨2, none, false, false, false⟩] } })).setDevice 2 (fun x =>
    { x with cond := cond, miss := 1 }))

theorem test_releaseBroadcast : gives (.releaseBroadcast 2 true false) (State.reset.setLoop 2 (fun x => { x with broadcastAt := some 0 })) (fun t =>
    (t.loop 2).broadcastAt = some 1 && (t.loop 2).broadcastEnds = some (false, true)) = true := by decide +kernel

/-! ### Keys, timers and messages -/

theorem test_keyInputChange : gives (.keyInputChange 4 true) site (fun t => t.du.keyInput.get 4 && !t.du.keyAccepted.get 4) = true := by
  decide +kernel

/-- K2 completes the set before any plan: the release broadcast is asked for. -/
theorem test_keyFilterExpiry : gives (.keyFilterExpiry 2)
    (State.reset.onDu (fun du => { du with keyInput := (Table.fill false).set 2 true, keyAccepted := (Table.fill false).set 1 true })) (fun t =>
    t.du.setHeld && t.du.broadcast && (t.loop 3).broadcastAt = some 0) = true := by decide +kernel

set_option maxRecDepth 1000000 in
/-- The key set becomes held. -/
theorem test_keyFilterExpiry_held : gives (.keyFilterExpiry 2)
    (alarmSite.onDu (fun du => { du with keyInput := (Table.fill false).set 2 true, keyAccepted := (Table.fill false).set 1 true })) (fun t =>
    t.du.setHeld && t.za.keysHeld && t.za.seq = .general && (t.area 1).phase = .evacuate) = true := by decide +kernel

/-- An unacknowledged investigation of zone 1 whose time has come. -/
def searched (seq : SiteSeq) : State :=
  (alarmSite.setZone 1 (fun x => { x with cond := .alarm, cause := .detector })).onZa (fun za =>
    { za with seq := seq, first := [1], siteEnd := some 100 })

set_option maxRecDepth 1000000 in
theorem test_tAckExpiry : gives .tAckExpiry (searched .awaitAck) (fun t =>
    t.za.seq = .general && (t.zone 1).cause = .escalated && (t.area 1).phase = .evacuate && (t.area 0).phase = .evacuate) = true := by
  decide +kernel

set_option maxRecDepth 1000000 in
theorem test_tSearchExpiry : gives .tSearchExpiry (searched .searching) (fun t => t.za.seq = .general && t.za.siteEnd.isNone) = true := by
  decide +kernel

/-- The timer of the other sub-state does nothing. -/
theorem test_tSearchExpiry_awaitAck : gives .tSearchExpiry (searched .awaitAck) (fun t => t.za.seq = .awaitAck) = true := by decide +kernel

set_option maxRecDepth 1000000 in
theorem test_phaseTimerExpiry : gives (.phaseTimerExpiry 1)
    ((alarmSite.onZa (fun za => { za with seq := .general })).setArea 1 (fun x => { x with phase := .alert, phaseEnd := some 99 })) (fun t =>
    (t.area 1).phase = .evacuate && (t.zone 2).phase = .evacuate && (t.area 0).phase = .none) = true := by decide +kernel

theorem test_closingTimerExpiry : gives (.closingTimerExpiry 1)
    (site.setArea 1 (fun x => { x with regime := .closing, closingEnd := some 100 })) (fun t =>
    (t.area 1).regime = .night && t.cu.calls.map Call.reason = [.leftOpen]) = true := by decide +kernel

theorem test_presenceTimerExpiry : gives .presenceTimerExpiry (alarmSite.onXp (fun xp => { xp with seconds := 105 })) (fun t =>
    t.xp.attach = .detached && t.xp.lapse = 1 && t.xp.presenceEnd.isNone) = true := by decide +kernel

theorem test_callAgeing : gives (.callAgeing 0) calling (fun t =>
    t.cu.calls = [{ oneCall with level := 2, lastRaise := 100, aged := true }]) = true := by decide +kernel

theorem test_returnHoldExpiry : gives (.returnHoldExpiry 1) (site.onRl (fun rl =>
      { rl with zones := rl.zones.set 1 { RouteZone.zero with selection := .route 2, candidate := some 1, holdEnd := some 100 } })) (fun t =>
    (t.rl.zones.get 1).selection = .route 1 && (t.rl.zones.get 1).candidate.isNone) = true := by decide +kernel

theorem test_passExpiry : gives (.passExpiry 1) (site.setDoor 1 (fun x => { x with pass := some 100 })) (fun t => (t.door 1).pass.isNone) = true := by
  decide +kernel

/-- Door 1 stands OPEN under lockdown for its hold limit of 10 s. -/
theorem test_doorHoldTimerExpiry : gives (.doorHoldTimerExpiry 1)
    (site.setDoor 1 (fun x => { x with lockdown := true, cmdLocked := true, posOpen := true, holdStart := some 90, cond := .opened })) (fun t =>
    (t.door 1).cond = .held && t.cu.calls.map Call.level = [2]) = true := by decide +kernel

theorem test_lockSenseTimerExpiry : gives (.lockSenseTimerExpiry 1)
    (site.setDoor 1 (fun x => { x with lockEngaged := true, lockStart := some (.shut, 97) })) (fun t =>
    (t.door 1).cond = .jammedShut && t.cu.calls.map Call.reason = [.jammedShut]) = true := by decide +kernel

/-- FIRE door 2 stands OPEN with its holder off by night. -/
theorem test_closeTimerExpiry : gives (.closeTimerExpiry 2)
    ((site.setArea 1 (fun x => { x with regime := .night })).setDoor 2 (fun x =>
      { x with posOpen := true, holderOn := false, closeStart := some 95, cond := .opened })) (fun t =>
    (t.door 2).cond = .failClose && t.cu.calls.map Call.level = [3]) = true := by decide +kernel

theorem test_rechargeExpiry : gives (.rechargeExpiry 2)
    (site.onRl (fun rl => { rl with circuits := rl.circuits.set 2 { Circuit.zero with state := .recharge, recharge := some 100 } })) (fun t =>
    (t.rl.circuits.get 2).recharge.isNone && (t.rl.circuits.get 2).state = .normal) = true := by decide +kernel

theorem test_testEndTime : gives .testEndTime (holding .lights testing) (fun t =>
    t.rl.test.isNone && (t.rl.circuits.get 1).result = .pass && (t.slot 1).completion = .ok && (t.slot 1).results.get 1 = 1#32) = true := by
  decide +kernel

/-- The uptime count shows the seconds modulo 2^32. -/
theorem test_uptimeTick : gives .uptimeTick (State.reset.onXp (fun xp => { xp with seconds := 4294967295 })) (fun t => t.uptime = 0#32) = true := by
  decide +kernel

theorem test_zoneAlarmMessage : gives .zoneAlarmMessage (calling.onMail (fun m => { m with zaOut := [.alarm 1 true, .alarm 2 true] })) (fun t =>
    t.cu.calls.map (fun c => (c.level, c.inAlarm)) = [(3, true)] && (t.rl.zones.get 1).alarm && t.mail.zaOut = [.alarm 2 true]) = true := by
  decide +kernel

/-- Zone 1 goes to EVACUATE on route 1: door 1, its exit door, is asked for and the sign flashes. -/
theorem test_effectivePhaseMessage : gives .effectivePhaseMessage (site.onMail (fun m => { m with zaOut := [.phase 1 .evacuate] })) (fun t =>
    t.mail.rlOut = [(1, true)] && t.rl.claims = [1] && (t.rl.signs.get 1).flash && (t.device 8).handed = some 1) = true := by decide +kernel

/-- Zone 1, in area 1, is investigated; area 1 is CLOSING and waits for door 1 alone, of which DU's message is on its way. -/
def closingSearch (c : DoorCond) : State :=
  (((site.setZone 1 (fun x => { x with cond := .alarm, cause := .detector })).onZa (fun za =>
    { za with seq := .awaitAck, first := [1], siteEnd := some 110 })).setArea 1 (fun x =>
    { x with regime := .closing, closingEnd := some 200 })).onMail (fun m => { m with duOut := [(1, c)] })

set_option maxRecDepth 1000000 in
/-- Door 1 has become SECURE: area 1 goes to NIGHT and the investigation ends; zones 1 to 3 go to EVACUATE. -/
theorem test_doorConditionMessage_closing : gives .doorConditionMessage (closingSearch .secure) (fun t =>
    t.closingHolds 1 && (t.area 1).regime = .night && t.za.seq = .general && (t.zone 1).cause = .escalated
      && t.mail.zaOut = [.phase 1 .evacuate, .phase 2 .evacuate, .phase 3 .evacuate]) = true := by decide +kernel

theorem test_doorConditionMessage : gives .doorConditionMessage (site.onMail (fun m => { m with duOut := [(1, .unknown)] })) (fun t =>
    (t.rl.routes.get 1).cause = .door 1 && (t.rl.zones.get 1).selection = .route 2 && t.za.doorCond.get 1 = .unknown) = true := by decide +kernel

theorem test_evacClaimRequest : gives .evacClaimRequest
    ((site.setDoor 1 (fun x => { x with lockdown := true, cmdLocked := true })).onMail (fun m => { m with rlOut := [(1, true), (2, true)] })) (fun t =>
    (t.door 1).evac && !(t.door 1).cmdLocked && t.mail.rlOut = [(2, true)]) = true := by decide +kernel

/-- The front command runs on the rest of the queue. -/
theorem test_step : (match step (State.reset.withPending [.uptimeTick, .take]) with
    | .next t => decide (t.xp.seconds = 1 ∧ t.pending = [.take])
    | _ => false) = true := by decide +kernel

/-- No word spells a command. -/
theorem test_withFetchWord : State.reset.withFetchWord 32 5 = State.reset := rfl

/-! ### Deciding the invariants on a given state -/

theorem of_gives {i : Instr} {s : State} {p : State → Bool} (h : gives i s p = true) : ∃ t, exec i s = .next t ∧ p t = true := by
  unfold gives at h
  split at h
  · exact ⟨_, ‹_›, h⟩
  · cases h

/-- With the command alone in the queue, a step answers a next state. -/
theorem steps {i : Instr} {s : State} (hp : s.pending = []) (h : gives i s (fun _ => true) = true) : ∃ t, step (s.withPending [i]) = .next t := by
  obtain ⟨t, ht, -⟩ := of_gives h
  refine ⟨t, ?_⟩
  have e : (s.withPending [i]).withPending [] = s := by cases s; simp_all [State.withPending]
  show exec i ((s.withPending [i]).withPending []) = _
  rw [e, ht]

theorem works_of {o : Order} {s : State} (h : o.argsOk s.plan = true) : Works (working o s) 0 o := by
  refine ⟨rfl, ?_, ⟨7, rfl⟩, h⟩
  simp [working, State.slot, State.setSlot, State.onOu, Table.holds]

theorem slot_cases {P : Nat → Prop} (h : ∀ n ∈ List.range 24, P n) (n : Nat) (hn : isSlot n = true) : P n :=
  h n (by simpa [isSlot] using hn)

theorem zone_cases {P : Nat → Prop} (h : ∀ z ∈ List.range' 1 120, P z) (z : Nat) (hz : isZone z = true) : P z :=
  h z (by simp [isZone] at hz; simp [List.mem_range'_1]; omega)

theorem area_cases {P : Nat → Prop} (h : ∀ a ∈ List.range 24, P a) (a : Nat) (ha : isArea a = true) : P a :=
  h a (by simpa [isArea] using ha)

theorem door_cases {P : Nat → Prop} (h : ∀ d ∈ List.range' 1 64, P d) (d : Nat) (hd : isDoor d = true) : P d :=
  h d (by simp [isDoor] at hd; simp [List.mem_range'_1]; omega)

theorem circuit_cases {P : Nat → Prop} (h : ∀ c ∈ List.range' 1 32, P c) (c : Nat) (hc : isCircuit c = true) : P c :=
  h c (by simp [isCircuit] at hc; simp [List.mem_range'_1]; omega)

theorem ordersOk_of {s : State} (hq : s.ou.queue.Nodup ∧ ∀ n ∈ s.ou.queue, n < 24)
    (hc : ∀ n ∈ List.range 24, (n ∈ s.ou.queue ↔ (s.slot n).handover = .committed) ∧
      ((s.slot n).handover = .taken → s.ou.working.bind Working.slot = some n ∨ n ∈ s.ou.held.map HeldOrder.slot))
    (hw : ∀ n ∈ s.ou.working.bind Working.slot, n < 24 ∧ (s.slot n).handover = .taken ∧ n ∉ s.ou.held.map HeldOrder.slot)
    (hh : ∀ h ∈ s.ou.held, h.slot < 24 ∧ (s.slot h.slot).handover = .taken)
    (hn : (s.ou.held.map HeldOrder.slot).Nodup ∧ (s.ou.held.map HeldOrder.owner).Nodup) (hr : ∀ h ∈ s.ou.held, h.owner.running s) :
    OrdersOk s := by
  refine ⟨⟨hq.1, fun n => ⟨fun h => ?_, fun h => ?_⟩, fun w n e e' => ?_, fun h m => ?_, hn.1⟩, ⟨hn.2, hr⟩, fun n h t => ?_⟩
  · have := hq.2 n h
    exact ⟨by simpa [isSlot] using this, (hc n (by simpa using this)).1.1 h⟩
  · exact (slot_cases hc n h.1).1.2 h.2
  · have := hw n (by rw [e]; exact e')
    exact ⟨by simpa [isSlot] using this.1, this.2⟩
  · exact ⟨by simpa [isSlot] using (hh h m).1, (hh h m).2⟩
  · rcases (slot_cases hc n h).2 t with e | e
    · rcases hx : s.ou.working with _ | w
      · rw [hx] at e; cases e
      · exact .inl ⟨w, rfl, by rw [hx] at e; exact e⟩
    · exact .inr e

theorem alarmsOk_of {s : State} (hf : s.za.first.Nodup ∧ ∀ z ∈ s.za.first, isZone z = true)
    (hz : ∀ z ∈ List.range' 1 120, (z ∈ s.za.first ↔ (s.zone z).cond = .alarm) ∧ (s.zone z).phase = s.phaseNow z)
    (hc : s.za.seq = .calm → s.za.first = [] ∧ ∀ a ∈ List.range 24, (s.area a).phase = .none ∧ (s.area a).phaseEnd = none)
    (hp : s.ps.active = none → s.za.first = []) (hi : s.za.seq = .awaitAck ∨ s.za.seq = .searching → s.za.first ≠ []) : AlarmsOk s := by
  refine ⟨hf.1, fun z => ⟨fun h => ?_, fun h => ?_⟩, fun h => ⟨(hc h).1, area_cases (hc h).2⟩, hp, hi, zone_cases fun z h => (hz z h).2⟩
  · exact ⟨hf.2 z h, (zone_cases (fun z h => (hz z h).1.1) z (hf.2 z h)) h⟩
  · exact (zone_cases (fun z h => (hz z h).1.2) z h.1) h.2

theorem callsOk_of {s : State} (hl : s.cu.calls.length ≤ 32) (hs : (s.cu.calls.map Call.source).Nodup) (hn : (s.cu.calls.map Call.serial).Nodup)
    (he : (s.cu.calls.map Call.entry).Nodup) (hb : ∀ c ∈ s.cu.calls, c.entry < 32 ∧ 1 ≤ c.serial ∧ c.serial ≤ 65535)
    (hp : ∀ n ∈ List.range' 1 144, (s.cu.sources.get n).pending.isSome = true →
      s.cu.calls.length = 32 ∧ ∀ c ∈ s.cu.calls, c.source ≠ n)
    (ho : (s.cu.decideOffer s.plan.nested).calls = s.cu.calls)
    (hh : ∀ h ∈ List.range' 1 80, s.plan.helpPlanned h = true → (s.cu.helps.get h).indicator = some (s.indicatorOf h)) : CallsOk s := by
  refine ⟨hl, hs, hn, he, hb, fun n h => ?_, ?_, fun h e => hh h ?_ e⟩
  · by_cases k : Table.holds 1 144 n
    · exact hp n (by simp [Table.holds] at k; simp [List.mem_range'_1]; omega) h
    · rw [Table.get_outside _ k] at h; cases h
  · calc s.cu.decideOffer s.plan.nested = { s.cu with calls := (s.cu.decideOffer s.plan.nested).calls } := rfl
      _ = s.cu := by rw [ho]
  · simp [PlanBank.helpPlanned, PlanBank.isHelp] at e
    simp [List.mem_range'_1]; omega

/-- What RoutesOk asks of one zone, as a check. -/
def zoneRouteOk (s : State) (z : Nat) : Bool :=
  (match (s.rl.zones.get z).selection with
   | .none => true
   | .route r => (s.plan.preferences z).contains r && (s.rl.routes.get r).usable
   | .refuge => (s.plan.preferences z).all (fun r => !(s.rl.routes.get r).usable)) &&
  (!s.plan.zonePlanned z || decide ((s.rl.zones.get z).selection = .none ↔ s.plan.preferences z = [])) &&
  (match (s.rl.zones.get z).candidate with
   | none => true
   | some f => s.rl.firstUsable (s.plan.preferences z) = some f) &&
  decide ((s.rl.zones.get z).stranded = true ↔ (s.rl.zones.get z).phase = .evacuate ∧ (s.rl.zones.get z).selection = .refuge) &&
  decide (s.cu.zoneStranded.get z = (s.rl.zones.get z).stranded)

theorem routesOk_of {s : State}
    (hr : ∀ r ∈ List.range' 1 48, if s.plan.routePlanned r then
        (s.rl.routes.get r).cause = s.rl.blockOf s.plan r (s.rl.routes.get r) ∧
          ((s.rl.routes.get r).usable = true ↔ (s.rl.routes.get r).cause = .none)
      else s.rl.routes.get r = .zero)
    (hz : ∀ z ∈ List.range' 1 120, zoneRouteOk s z = true) (hc : s.rl.claims = s.rl.doorsInUse s.plan)
    (hg : ∀ g ∈ List.range' 1 64, s.plan.signPlanned g = true → s.rl.signs.get g = s.rl.signOf s.plan g) : RoutesOk s := by
  refine ⟨fun r a b => hr r (by simp [List.mem_range'_1]; omega), fun z h => ?_, hc, fun g e => hg g ?_ e⟩
  · have k := zone_cases hz z h
    simp only [zoneRouteOk, Bool.and_eq_true, Bool.or_eq_true, Bool.not_eq_true', decide_eq_true_eq] at k
    obtain ⟨⟨⟨⟨k1, k2⟩, k3⟩, k4⟩, k5⟩ := k
    refine ⟨fun r e => ?_, fun e => ?_, fun e => ?_, fun f e => ?_, k4, k5⟩
    · rw [e] at k1; simpa using k1
    · rcases k2 with k2 | k2
      · rw [e] at k2; cases k2
      · exact k2
    · rw [e] at k1; simpa using k1
    · rw [e] at k3; simpa using k3
  · simp [PlanBank.signPlanned] at e
    simp [List.mem_range'_1]; omega

/-- A function test runs and no circuit shows DURATION_TEST. -/
theorem lightsOk_of {s : State} {q : LightTest} (hq : s.rl.test = some q) (ha : s.ps.active ≠ none) (hf : q.duration = false)
    (hc : q.circuits ≠ [] ∧ ∀ c ∈ q.circuits, s.plan.lampPlanned c = true)
    (hs : ∀ c ∈ List.range' 1 32, (s.rl.circuits.get c).state ≠ .durationTest) : LightsOk s := by
  refine ⟨fun h => absurd h ha, fun p e => ?_, fun c h e => absurd e (circuit_cases hs c h)⟩
  rw [hq] at e
  cases e
  exact ⟨hc.1, hc.2, fun h => by rw [hf] at h; cases h⟩

/-! ### Witnesses: states and operands that meet the hypotheses of the statements -/

theorem site_memory : MemoryOk site := by unfold MemoryOk; decide +kernel

/-- A door, a help point, a sign and a circuit whose devices nothing else names, a sounder's, and a device that no record names. -/
theorem witness_handOvers :
    (site.plan.doorPlanned 1 = true ∧ site.plan.doorDevice 1 = 4 ∧ ¬ site.plan.namedBeside 4 1 0 0 0 ∧ ¬ site.plan.helpNames 4) ∧
    (site.plan.helpPlanned 1 = true ∧ site.plan.helpDevice 1 = 6 ∧ ¬ site.plan.namedBeside 6 0 1 0 0) ∧
    (site.plan.signPlanned 1 = true ∧ site.plan.signDevice 1 = 7 ∧ ¬ site.plan.namedBeside 7 0 0 1 0) ∧
    (site.plan.lampPlanned 1 = true ∧ site.plan.lampDevice 1 = 8 ∧ ¬ site.plan.namedBeside 8 0 0 0 1) ∧
    (site.plan.deviceKind 3 = some .sounder ∧ ¬ site.plan.doorNames 3 ∧ ¬ site.plan.helpNames 3 ∧ ¬ site.plan.signNames 3 ∧
      ¬ site.plan.lampNames 3) ∧
    (¬ site.plan.namedBeside 1 0 0 0 0 ∧ ¬ site.plan.signNames 1 ∧ ¬ site.plan.lampNames 1) := by
  unfold PlanBank.namedBeside PlanBank.doorNames PlanBank.helpNames PlanBank.signNames PlanBank.lampNames
  refine ⟨⟨?_, ?_, ?_, ?_⟩, ⟨?_, ?_, ?_⟩, ⟨?_, ?_, ?_⟩, ⟨?_, ?_, ?_⟩, ⟨?_, ?_, ?_, ?_, ?_⟩, ?_, ?_, ?_⟩ <;> decide +kernel

theorem site_alarms : AlarmsOk alarmSite := by apply alarmsOk_of <;> decide +kernel

theorem investigation_alarms : AlarmsOk (searched .awaitAck) := by apply alarmsOk_of <;> decide +kernel

/-- Every area in EVACUATE, the sequence GENERAL, no zone in ALARM. -/
def evacuated : State :=
  alarmSite.onZa (fun za =>
    { za with
      seq := .general
      zones := (Table.fill .zero).map (fun z x => if z ≤ 2 then { x with cond := .quiet, phase := .evacuate } else x)
      areas := (Table.fill .zero).map (fun a x => if a ≤ 1 then { x with phase := .evacuate } else x) })

theorem evacuated_alarms : AlarmsOk evacuated := by apply alarmsOk_of <;> decide +kernel

theorem site_routes : RoutesOk site := by apply routesOk_of <;> decide +kernel

/-- Both routes barred and zone 1 in REFUGE. -/
def barred : State :=
  site.onRl (fun rl =>
    { rl with
      routes := (rl.routes.set 1 { bar := true, usable := false, cause := .barred }).set 2 { bar := true, usable := false, cause := .barred }
      zones := rl.zones.set 1 { RouteZone.zero with selection := .refuge }
      signs := rl.signs.set 1 { indication := .refuge, flash := false } })

theorem barred_routes : RoutesOk barred := by apply routesOk_of <;> decide +kernel

/-- Zone 1 on route 2, returning to route 1 at second 100; `barOne` says that route 1 is barred instead. -/
def returning (barOne : Bool) : State :=
  site.onRl (fun rl =>
    { rl with
      routes := if barOne then rl.routes.set 1 { bar := true, usable := false, cause := .barred } else rl.routes
      zones := rl.zones.set 1
        { RouteZone.zero with
          selection := .route 2, candidate := if barOne then none else some 1, holdEnd := if barOne then none else some 100 }
      signs := rl.signs.set 1 { indication := .right, flash := false } })

theorem returning_routes : RoutesOk (returning false) ∧ RoutesOk (returning true) :=
  ⟨by apply routesOk_of <;> decide +kernel, by apply routesOk_of <;> decide +kernel⟩

theorem site_orders : OrdersOk site := by
  apply ordersOk_of <;> first | decide +kernel | exact fun h m => by cases m

theorem testing_lights : LightsOk testing := by
  refine lightsOk_of (q := oneTest) rfl ?_ rfl ?_ ?_ <;> decide +kernel

theorem calling_calls : CallsOk calling := by apply callsOk_of <;> decide +kernel

/-- A plan with area 0 and the site parameters alone, which passes validation: bank A. -/
def bareMem : Memory :=
  [(0x2800, 1#8), (0x2802, 64#8), (0x2803, 8#8), (0x2808, 1#8), (0x2840, 10#8), (0x2844, 30#8), (0x2848, 5#8), (0x284C, 30#8),
    (0x2850, 10#8), (0x2854, 1#8), (0x2858, 3#8), (0x285C, 2#8), (0x2864, 1#8), (0x2868, 2#8), (0x2870, 1#8), (0x2874, 2#8),
    (0x287C, 1#8), (0x2880, 2#8), (0x2888, 1#8), (0x2AC0, 1#8), (0x2AC1, 60#8), (0x2AC6, 192#8), (0x2AC7, 3#8)]

/-- The part with that plan in bank A; `active` says which bank is active. -/
def bare (active : Option Bank) (staged : StagedState) : State :=
  { State.reset with mem := bareMem, ps := { Ps.reset with active := active, staged := staged } }

/-- Check 14 takes the named devices in ascending record index: help point 3 before door 7. -/
theorem test_validate_named :
    let mem := bareMem.take 4 ++ [(0x280A, 1#8), (0x280B, 1#8)] ++ bareMem.drop 4 ++ [(0x40E0, 1#8), (0x40E3, 1#8), (0x4490, 1#8), (0x4493, 1#8)]
    ({ bare (some .a) .edit with mem := mem } : State).plan.validate = some (14, 3) := by decide +kernel

theorem bare_memory (active : Option Bank) (staged : StagedState) : MemoryOk (bare active staged) :=
  ⟨(by decide : Memory.wf bareMem), (by decide : ∀ c ∈ bareMem, Config.bankABase ≤ c.1 ∧ c.1 < Config.bankBBase + Config.bankSize)⟩

theorem bare_validates : (bare (some .a) .edit).plan.validate = none := by decide +kernel

theorem bare_planOk : PlanOk (bare (some .a) .edit) :=
  ⟨fun bank h => (by cases h; exact bare_validates), fun h => (by cases h)⟩

theorem bare_waiting_planOk : PlanOk (bare none .waiting) := ⟨fun bank h => (by cases h), fun _ => bare_validates⟩

theorem witness_StepRunsFrontCommand : State.reset.pending = [] := rfl

/-- Each reason, at the edges of the windows; an empty and a full capture. -/
theorem witness_RefusedWriteIsCaptured : State.reset.writeRefusal 0x2802#15 .word 0 = some .size
    ∧ State.reset.writeRefusal 0x7FE4#15 .byte 0 = some .size ∧ State.reset.writeRefusal 0#15 .word 0 = some .protectedWord
    ∧ State.reset.writeRefusal 0x7C#15 .word 0 = some .protectedWord ∧ State.reset.writeRefusal 0xEC#15 .word 0 = some .protectedWord
    ∧ State.reset.writeRefusal 0x1FC#15 .word 0 = some .protectedWord ∧ State.reset.writeRefusal 0x800#15 .word 0 = some .protectedWord
    ∧ State.reset.writeRefusal 0x27FC#15 .word 0 = some .protectedWord ∧ site.writeRefusal 0x2800#15 .word 0 = some .protectedWord
    ∧ State.reset.writeRefusal 0x5000#15 .word 0 = some .protectedWord ∧ State.reset.writeRefusal 0x7FE0#15 .word 0 = some .protectedWord
    ∧ (working .acknowledge site).writeRefusal 0x200#15 .word 1 = some .state ∧ State.reset.writeRefusal 0x7C0#15 .word 0 = some .state
    ∧ (bare none .waiting).writeRefusal 0x2800#15 .word 0 = some .state ∧ State.reset.writeRefusal 0x7800#15 .word 0 = some .unassigned
    ∧ State.reset.writeRefusal 0x7FF4#15 .word 0 = some .unassigned ∧ State.reset.writeRefusal 0x7FFC#15 .word 0 = some .unassigned
    ∧ State.reset.xp.capture.count = 0
    ∧ (State.reset.onXp (fun xp => { xp with capture := { xp.capture with count := 255 } })).xp.capture.count ≠ 0 := by decide +kernel

theorem witness_AcceptedWritesAreStored : isSlot 0 = true ∧ isSlot 23 = true ∧ (1 ≤ 1 ∧ 1 ≤ 8) ∧ (1 ≤ 8 ∧ 8 ≤ 8)
    ∧ (State.reset.slot 0).handover = .free ∧ (State.reset.slot 23).handover = .free ∧ State.reset.mem.wf ∧ State.reset.ps.staged = .edit
    ∧ State.reset.ps.stagedBank.base = 0x2800
    ∧ (0x2800#15).toNat = 0x2800 ∧ (0x4FFC#15).toNat = 0x4FFC ∧ 0x4FFC % 4 = 0 ∧ 0x4FFC < 0x2800 + 0x2800 := by decide +kernel

theorem witness_RegisterWritesTakeEffect : isSummaryWord 0 = true ∧ isSummaryWord 26 = true := by decide

theorem witness_HandoverWritesMoveTheSlot : ∀ n ∈ [0, 23], isSlot n = true ∧ (State.reset.slot n).handover = .free
    ∧ ((State.reset.setSlot n (fun x => { x with handover := .committed })).slot n).handover = .committed
    ∧ ((State.reset.setSlot n (fun x => { x with handover := .done })).slot n).handover = .done := by decide +kernel

/-- Zone 1 in ALARM, its detector in WARN, and an answer that makes the detector NORMAL. -/
def easing : State := (sweeping.setZone 1 (fun x => { x with cond := .alarm, cause := .manual })).setDetector 1 (fun x => { x with state := .warn })

/-- The count of detectors in ALARM stays 0, and the zone's record is rewritten. -/
theorem answer_recounts : gives (.answer 0 .rollCall 1 (some ⟨.detector, false, 0, 10⟩) none) easing (fun t =>
    t.recordBody 0 = easing.recordBody 0 && (t.detector 1).state = .normal && (t.zone 1).cond = .alarm && t.xp.counts.get 0 = 2
      && t.xp.counts.get 1 = 0) = true := by decide +kernel

/-- A plan in a bank that passes validation: area 0, zone 1, a PUBLIC door, a help point, a route by the door, a sign and a circuit; its key set and the
door's hold limit are given. -/
def doorMem (base : Nat) (keys limit : Byte) : Memory :=
  [(0, 1#8), (2, 64#8), (3, 8#8), (8, 1#8), (9, 1#8), (10, 1#8), (11, 1#8), (12, 1#8), (13, 1#8), (14, 1#8), (16, 4#8), (0x40, 10#8),
    (0x44, 30#8), (0x48, 5#8), (0x4C, 30#8), (0x50, 10#8), (0x54, 1#8), (0x58, keys), (0x5C, 2#8), (0x64, 1#8), (0x68, 2#8), (0x70, 1#8),
    (0x74, 2#8), (0x7C, 1#8), (0x80, 2#8), (0x88, 1#8), (0x2C0, 1#8), (0x2C1, 60#8), (0x2C6, 192#8), (0x2C7, 3#8), (0x380, 1#8), (0x384, 1#8),
    (0xB00, 3#8), (0xB01, 1#8), (0xB08, 4#8), (0xB09, 1#8), (0xB10, 5#8), (0xB11, 1#8), (0xB18, 6#8), (0xB19, 1#8), (0x1700, 1#8),
    (0x1701, 2#8), (0x1702, 3#8), (0x1703, 4#8), (0x1880, 1#8), (0x1881, 1#8), (0x1883, 1#8), (0x1884, 8#8), (0x1886, limit), (0x1888, 2#8),
    (0x188A, 2#8), (0x188B, 1#8), (0x1C80, 1#8), (0x1C81, 1#8), (0x1C83, 2#8), (0x1C84, 2#8), (0x1F00, 1#8), (0x1F01, 1#8), (0x2200, 1#8),
    (0x2202, 3#8), (0x2203, 1#8), (0x2208, 1#8), (0x2209, 1#8), (0x2600, 1#8), (0x2602, 4#8), (0x2604, 1#8)].map (fun c => (base + c.1, c.2))

/-- The part under that plan, its door open under a HOLD. A plan waits: the same one, but with a hold limit already passed and with K3 out of the key set,
K1 and K2 being OPERATED; or one of area 0 alone. -/
def replanned (same : Bool) : State :=
  { site with
    mem := doorMem 0x2800 7 30 ++ (if same then doorMem 0x5000 3 10 else bareMem.map (fun c => (c.1 + 0x2800, c.2)))
    ps := { Ps.reset with active := some .a, staged := .waiting }
    za := { Za.reset with zones := (Table.fill .zero).set 1 { Zone.zero with cond := .quiet }, doorCond := (Table.fill .none).set 1 .opened }
    lc :=
      { loops := (Table.fill .zero).set 0 { Loop.zero with state := .ring }
        devices := (Table.fill .zero).map (fun i x => if i ≤ 4 then { x with cond := .ok } else x) }
    du :=
      { Du.reset with
        keyAccepted := ((Table.fill false).set 1 true).set 2 true
        doors := (Table.fill .zero).set 1
          { Door.zero with posOpen := true, cmdLocked := true, hold := some true, cond := .opened, holdStart := some 90 } }
    cu :=
      { Cu.reset with
        sources := ((Table.fill .zero).set 1 { Source.zero with base := 2 }).set 81 { Source.zero with base := 1 }
        helps := (Table.fill .zero).set 1 { HelpPoint.zero with settle := false, indicator := some .off } }
    rl :=
      { Rl.reset with
        routes := (Table.fill .zero).set 1 { Route.zero with usable := true }
        zones := (Table.fill .zero).set 1 { RouteZone.zero with selection := .route 1 }
        doorCond := (Table.fill .none).set 1 .opened
        signs := (Table.fill .zero).set 1 { indication := .left, flash := false }
        circuits := (Table.fill .zero).set 1 { Circuit.zero with state := .normal } } }

/-- What activation reads of those plans for the door: area 0, zone 1, the door and its device. -/
def doorCells (base : Nat) (keys limit : Byte) : Memory :=
  [(0x58, keys), (0x2C0, 1#8), (0x2C1, 60#8), (0x380, 1#8), (0xB00, 3#8), (0xB01, 1#8), (0x1880, 1#8), (0x1881, 1#8), (0x1883, 1#8),
    (0x1886, limit), (0x1888, 2#8), (0x188A, 2#8)].map (fun c => (base + c.1, c.2))

/-- The part with the waiting plan that keeps its records, cut down to the door. -/
def heldDoor : State :=
  { replanned true with mem := doorCells 0x2800 7 30 ++ doorCells 0x5000 3 10, cu := Cu.reset, rl := { Rl.reset with doorCond := (replanned true).rl.doorCond } }

/-- The door's device lost: the door UNKNOWN, due to settle, and yet with filter candidates. -/
def lostDoor : State :=
  (heldDoor.setDevice 1 (fun x => { x with cond := .missing })).setDoor 1 (fun x =>
    { x with cond := .unknown, settle := true, exitCand := some 1, posCand := some { count := 1, wasSecure := false }, holdStart := none })

/-- A part whose active plan is that of area 0 alone, in bank B, while the other waits in bank A. -/
def planned : State := { State.reset with mem := (replanned false).mem, ps := { Ps.reset with active := some .b, staged := .waiting } }

/-- The same part with its keys out of the new set and help point 1 planned too. A call of it waits in entry 0 behind one that is ATTENDED, of a source
the new plan does not plan. -/
def overtaken : State :=
  let plan := fun base limit => doorCells base 7 limit ++ [(base + 0x1C80, 1#8), (base + 0x1C81, 1#8)]
  let call : Call :=
    { entry := 0, serial := 1, source := 1, zone := 1, level := 1, reason := .press, state := .waiting, admitted := 95, lastRaise := 95, repeats := 0,
      aged := false, inAlarm := false, stranded := false }
  { heldDoor with
    mem := plan 0x2800 30 ++ plan 0x5000 10
    cu :=
      { Cu.reset with
        serial := 2, calls := [call, { call with entry := 1, serial := 2, source := 2, state := .attended }]
        helps := (Table.fill .zero).set 1 { HelpPoint.zero with settle := false, indicator := some .steady } } }

/-- Entry 0 as it was, rewritten twice; entry 1 freed and filled again; CALL set. -/
def overtook (t : State) : Bool :=
  t.cu.calls.map (fun c => (c.entry, c.source, c.state)) = [(0, 1, .waiting), (1, 81, .offered)] && t.recordBody 592 = overtaken.recordBody 592
    && t.xp.counts.get 592 = 4 && t.xp.counts.get 593 = 4 && t.xp.counts.get 594 = 0 && (t.xp.summary.get 18).getLsbD 16 && t.xp.notice.getLsbD 3

set_option maxRecDepth 1000000 in
/-- The activation offers the waiting call, and the HELD alert that follows, an event of its own, passes it over. -/
theorem activation_overtakes : gives .activation overtaken overtook = true := by decide +kernel

/-- The record of call entry 0 shows its new level, that of entry 1 nothing new; the record of a zone in ALARM is rewritten as it was, that of a WAITING
device at STOP LOOP, and that of a call offered and passed over at an activation. -/
theorem witness_ChangedRecordsAreRewritten : (∃ t, exec (.callAgeing 0) calling = .next t ∧
      decide (t.recordBody 592 ≠ calling.recordBody 592 ∧ t.recordBody 593 = calling.recordBody 593) = true) ∧
    (∃ t, exec (.answer 0 .rollCall 1 (some ⟨.detector, false, 0, 10⟩) none) easing = .next t ∧
      (t.recordBody 0 = easing.recordBody 0 && (t.detector 1).state = .normal && (t.zone 1).cond = .alarm && t.xp.counts.get 0 = 2
        && t.xp.counts.get 1 = 0) = true) ∧
    (∃ t, exec .stopLoop stopping = .next t ∧ stoppedRewritten t = true) ∧
    (∃ t, exec .activation overtaken = .next t ∧ overtook t = true) ∧
    (stopping.device 2).cond = .waiting ∧
    (easing.detector 1).state = .warn ∧ (easing.zone 1).cond = .alarm ∧ easing.plan.deviceZone 1 = 1 ∧ easing.plan.deviceKind 1 = some .detector :=
  ⟨of_gives (by decide +kernel), of_gives answer_recounts, of_gives test_stopLoop, of_gives activation_overtakes, by decide +kernel⟩

/-- An answer at an address without a device marks it EXTRA. -/
theorem answer_extra : gives (.answer 0 .openSegment 96 (some ⟨.sign, false, 0, 0⟩) none) sweeping (fun t =>
    (t.device 96).extra && (t.device 96).extraKind = some .sign && (t.loop 0).extraCount = 1 && (t.loop 0).firstExtra = 96) = true := by decide +kernel

/-- Each change that a cause stands for is that of some command, by the tests above: a slot's completion and a zone's condition; the sequence and the keys
held; silence; the first-alarm zone; an area's phase and regime; a door's condition; the calls; a route, a selection and a sign; STRANDED; a circuit; a
loop and a device; an EXTRA mark; the staged state; the active plan. -/
theorem witness_ChangesAreNoticed :
    (∀ c ∈ [Instr.isolateZone, .keyFilterExpiry 2, .silence, .resetSite, .evacuate, .closingTimerExpiry 1, .isolateDoor, .closeCall, .barRoute, .testLights,
      .stopLoop, .answer 0 .openSegment 96 (some ⟨.sign, false, 0, 0⟩) none, .commitPlan, .activation], resets c = false) ∧
    (∃ t, exec .isolateZone (working (.isolateZone 2) alarmSite) = .next t ∧ (ended .ok t && (t.zone 2).cond = .isolated) = true) ∧
    (∃ s t, exec (.keyFilterExpiry 2) s = .next t ∧ (s.za = alarmSite.za ∧ s.mem = alarmSite.mem) ∧
      (t.du.setHeld && t.za.keysHeld && t.za.seq = .general && (t.area 1).phase = .evacuate) = true) ∧
    (∃ t, exec (.closingTimerExpiry 1) (site.setArea 1 (fun x => { x with regime := .closing, closingEnd := some 100 })) = .next t ∧
      ((t.area 1).regime = .night && t.cu.calls.map Call.reason = [.leftOpen]) = true) ∧
    (∃ t, exec .isolateDoor (working (.isolateDoor 2) site) = .next t ∧
      (ended .ok t && (t.door 2).cond = .isolated && t.mail.duOut = [(2, .isolated)]) = true) ∧
    (∃ t, exec .closeCall (working (.closeCall 9) calling) = .next t ∧ (ended .ok t && t.cu.calls = []) = true) ∧
    (∃ t, exec .barRoute (working (.barRoute 1) site) = .next t ∧
      (ended .ok t && (t.rl.zones.get 1).selection = .route 2 && (t.rl.routes.get 1).cause = .barred && !(t.rl.routes.get 1).usable
        && (t.rl.signs.get 1).indication = .right && (t.device 7).handed = some (t.rl.signs.get 1).output) = true) ∧
    (∃ t, exec .stopLoop stopping = .next t ∧ stoppedRewritten t = true) ∧
    (∃ t, exec (.answer 0 .openSegment 96 (some ⟨.sign, false, 0, 0⟩) none) sweeping = .next t ∧
      ((t.device 96).extra && (t.device 96).extraKind = some .sign && (t.loop 0).extraCount = 1 && (t.loop 0).firstExtra = 96) = true) ∧
    (∃ t, exec .commitPlan (working (.commitPlan true) site) = .next t ∧
      (t.ps.staged = .checking && t.ps.deferred && t.ou.held = [{ slot := 0, owner := .plan }]) = true) :=
  ⟨by decide, of_gives test_isolateZone, ⟨_, (of_gives test_keyFilterExpiry_held).choose, (of_gives test_keyFilterExpiry_held).choose_spec.1, ⟨rfl, rfl⟩,
      (of_gives test_keyFilterExpiry_held).choose_spec.2⟩, of_gives test_closingTimerExpiry, of_gives test_isolateDoor, of_gives test_closeCall,
    of_gives test_barRoute, of_gives test_stopLoop, of_gives answer_extra, of_gives test_commitPlan⟩

theorem witness_NoticeLineFollowsItsRegisters : (∃ line, Instr.ifaceReset true = .ifaceReset line)
    ∧ ∃ i, i < 8 ∧ (128#8 : Byte).getLsbD i = true := ⟨⟨true, rfl⟩, 7, by decide⟩

theorem witness_DoneSummaryFollowsTheSlots : isSlot 23 = true ∧ State.reset.xp.capture.count = 0
    ∧ ((State.reset.setSlot 23 (fun x => { x with handover := .done })).slot 23).handover = .done := by decide +kernel

/-- Second 105 with each state of the sequence, an investigation with its trigger zone. -/
theorem witness_ClockAndPresenceExpiry : ∀ seq : SiteSeq,
    let s := (searched seq).onXp (fun xp => { xp with seconds := 105 })
    s.xp.attach = .attached ∧ s.xp.presenceEnd = some 105 ∧ 105 ≤ s.now ∧ s.za.seq = seq ∧ s.za.first.head? = some 1 ∧ isZone 1 = true :=
  fun _ => ⟨rfl, rfl, Nat.le_refl _, rfl, rfl, rfl⟩

/-- A take with a wrong argument count, without a plan, of no order's arguments, of an argument outside the plan, and one that succeeds. -/
theorem witness_TakeMakesTheGenericChecks :
    let at4 := fun (code count a b : Nat) (s : State) => (s.setSlot 4 (fun x =>
      { x with handover := .committed, code := wordOf code, argCount := byteOf count, args := (x.args.set 0 (wordOf a)).set 1 (wordOf b) })).onOu
        (fun ou => { ou with queue := [4] })
    (∀ s ∈ [at4 0x10 1 0 0 site, at4 0x10 0 0 0 State.reset, at4 0x18 2 0 2 site, at4 0x15 1 4 0 site, at4 0x15 1 3 0 site],
      s.ou.working = none ∧ s.ou.queue = [4] ∧ isSlot 4 = true ∧ (s.slot 4).handover = .committed) ∧
    orderArity 0x10 = some 0 ∧ orderOf 0x18 0 2 0 = none ∧ orderOf 0x15 4 0 0 = some (.isolateZone 4)
      ∧ (Order.isolateZone 4).argsOk site.plan = false ∧ (Order.isolateZone 3).argsOk site.plan = true := by decide +kernel

/-- Its own slot; a FREE, a COMMITTED and a DONE target; a target held for each kind of owner. -/
theorem witness_CancelByItsTarget :
    (∀ n ∈ [0, 5, 6, 7], Works (working (.cancel n) State.reset) 0 (.cancel n)) ∧ OrdersOk (working (.cancel 0) State.reset) ∧
    (let s := (working (.cancel 6) ((State.reset.setSlot 6 (fun x => { x with handover := .committed })).setSlot 7 (fun x =>
      { x with handover := .done }))).onOu (fun ou => { ou with queue := [6] })
     OrdersOk s ∧ (s.slot 5).handover = .free ∧ (s.slot 6).handover = .committed ∧ (s.slot 7).handover = .done) ∧
    Works (holding .plan (working (.cancel 1) (bare none .waiting))) 0 (.cancel 1) ∧
    OrdersOk (holding .plan (working (.cancel 1) (bare none .waiting))) ∧ OrdersOk (holding .lights (working (.cancel 1) testing)) ∧
    OrdersOk (holding (.loop 3) (working (.cancel 1) (State.reset.setLoop 3 (fun x => { x with state := .rollcall })))) := by
  refine ⟨fun n h => works_of ?_, ?_, ⟨?_, by decide +kernel⟩, ⟨rfl, by decide +kernel, ⟨7, rfl⟩, rfl⟩, ?_, ?_, ?_⟩
  · exact (by decide : ∀ n ∈ [0, 5, 6, 7], (Order.cancel n).argsOk State.reset.plan = true) n h
  · apply ordersOk_of <;> first | decide +kernel | exact fun h m => by cases m
  · apply ordersOk_of <;> first | decide +kernel | exact fun h m => by cases m
  all_goals
    apply ordersOk_of <;> first | decide +kernel | (intro h m; cases List.mem_singleton.1 m; unfold HeldOwner.running; decide +kernel)

theorem witness_PlanOrdersCommitAndCopy : (∀ staged deferred, Works (working (.commitPlan deferred) (bare none staged)) 0 (.commitPlan deferred)) ∧
    (∀ staged, Works (working .copyPlan (bare (some .a) staged)) 0 .copyPlan ∧ (bare (some .a) staged).mem.wf
      ∧ (bare (some .a) staged).ps.active = some .a) :=
  ⟨fun _ _ => works_of rfl, fun _ => ⟨works_of rfl, (by decide : Memory.wf bareMem), rfl⟩⟩

theorem working_orders {o : Order} {s : State} (h : s.ou = Ou.reset) : OrdersOk (working o s) := by
  have e : ∀ n, (working o s).slot n = (working .acknowledge State.reset).slot n := by
    intro n
    simp [working, State.slot, State.setSlot, State.onOu, h, State.reset]
  have q : (working o s).ou.queue = [] := by simp [working, State.setSlot, State.onOu, h, Ou.reset]
  have l : (working o s).ou.held = [] := by simp [working, State.setSlot, State.onOu, h, Ou.reset]
  have w : (working o s).ou.working.bind Working.slot = some 0 := rfl
  apply ordersOk_of
  · rw [q]; decide
  · rw [q, l, w]; simp only [e]; decide
  · rw [w, l]; simp only [e]; decide
  · rw [l]; intro x m; cases m
  · rw [l]; decide
  · rw [l]; intro x m; cases m

theorem held_plan {s : State} (h : s.ou = Ou.reset) (hs : s.ps.staged ≠ .edit) : OrdersOk (holding .plan s) := by
  have e : (holding .plan s).ou = (holding .plan State.reset).ou := by
    show _ = (holding .plan State.reset).ou
    simp [holding, State.setSlot, State.onOu, h, State.reset]
  apply ordersOk_of
  · rw [e]; decide
  · simp only [State.slot, e]; decide
  · simp only [State.slot, e]; decide
  · simp only [State.slot, e]; decide
  · rw [e]; decide
  · intro x m
    have k : (holding .plan s).ou.held = [{ slot := 1, owner := .plan }] := rfl
    rw [k] at m
    cases List.mem_singleton.1 m
    exact hs

/-- A plan that fails (an empty bank) and one that passes: with no active plan, and on a site that is not CALM in either mode. A commit that waits, with a
report of each kind and a decision of its own, on a quiet site and on one that is not. -/
theorem witness_CommitsAreDecided :
    (let s := holding .plan (State.reset.onPs (fun ps => { ps with staged := .checking }))
     OrdersOk s ∧ s.ps.staged = .checking ∧ { slot := 1, owner := .plan } ∈ s.ou.held ∧ s.staged.validate = some (1, 0)) ∧
    (let s := holding .plan (bare none .checking)
     OrdersOk s ∧ s.ps.staged = .checking ∧ { slot := 1, owner := .plan } ∈ s.ou.held ∧ s.staged.validate = none ∧ s.ps.active = none) ∧
    (∀ deferred, let s := ((holding .plan (bare (some .b) .checking)).onZa (fun za => { za with seq := .general })).onPs (fun ps =>
       { ps with deferred := deferred })
     OrdersOk s ∧ s.ps.staged = .checking ∧ { slot := 1, owner := .plan } ∈ s.ou.held ∧ s.staged.validate = none ∧ s.ps.active ≠ none
      ∧ s.za.seq ≠ .calm) ∧
    (∀ seq : SiteSeq, let s := holding .plan (((bare (some .b) .waiting).onZa (fun za => { za with seq := seq })).onPs (fun ps =>
       { ps with calmReports := 1, testReports := 1 }))
     OrdersOk s ∧ s.ps.staged = .waiting ∧ { slot := 1, owner := .plan } ∈ s.ou.held ∧ 0 < s.ps.calmReports ∧ 0 < s.ps.testReports
      ∧ s.za.seq = seq) :=
  ⟨⟨held_plan rfl (by decide), rfl, by decide, by decide +kernel⟩, ⟨held_plan rfl (by decide), rfl, by decide, bare_validates, rfl⟩,
    fun deferred => ⟨held_plan (s := ((bare (some .b) .checking).onZa (fun za => { za with seq := .general })).onPs (fun ps =>
      { ps with deferred := deferred })) rfl (fun h => by cases h), rfl, .head _, bare_validates, fun h => (by cases h),
      fun h => (by cases h)⟩,
    fun _ => ⟨held_plan rfl (fun h => by cases h), rfl, .head _, Nat.one_pos, Nat.one_pos, rfl⟩⟩

theorem replanned_memory (same : Bool) : MemoryOk (replanned same) := by cases same <;> (unfold MemoryOk; decide +kernel)

theorem kept_active : ((replanned true).bank .a).validate = none := by decide +kernel

theorem kept_staged : ((replanned true).bank .b).validate = none := by decide +kernel

theorem dropped_active : ((replanned false).bank .a).validate = none := by decide +kernel

theorem dropped_staged : ((replanned false).bank .b).validate = none := by decide +kernel

/-- Each bank passing validation, the active bank and the staged one do. -/
theorem planOk_of {s : State} (ha : (s.bank .a).validate = none) (hb : (s.bank .b).validate = none) : PlanOk s := by
  have h : ∀ bank, (s.bank bank).validate = none := fun bank => by cases bank <;> assumption
  exact ⟨fun bank _ => h bank, fun _ => h _⟩

theorem replanned_plans (same : Bool) : PlanOk (replanned same) := by
  cases same
  · exact planOk_of dropped_active dropped_staged
  · exact planOk_of kept_active kept_staged

theorem replanned_records (same : Bool) : AlarmsOk (replanned same) ∧ CallsOk (replanned same) ∧ RoutesOk (replanned same) := by
  cases same <;>
    exact ⟨by apply alarmsOk_of <;> decide +kernel, by apply callsOk_of <;> decide +kernel, by apply routesOk_of <;> decide +kernel⟩

/-- The part whose waiting plan drops its records, with a call of help point 1, which that plan does not plan. -/
def dropping : State :=
  (replanned false).onCu (fun cu =>
    { cu with
      serial := 1, calls := [{ oneCall with serial := 1, source := 1, level := 2, reason := .press }]
      helps := (Table.fill .zero).set 1 { HelpPoint.zero with settle := false, indicator := some .steady } })

theorem dropping_calls : CallsOk dropping := by apply callsOk_of <;> decide +kernel

theorem planned_records : AlarmsOk planned ∧ CallsOk planned ∧ RoutesOk planned :=
  ⟨by apply alarmsOk_of <;> decide +kernel, by apply callsOk_of <;> decide +kernel, by apply routesOk_of <;> decide +kernel⟩

theorem bare_checking_records : AlarmsOk (bare none .checking) ∧ CallsOk (bare none .checking) ∧ RoutesOk (bare none .checking) :=
  ⟨by apply alarmsOk_of <;> decide +kernel, by apply callsOk_of <;> decide +kernel, by apply routesOk_of <;> decide +kernel⟩

set_option maxRecDepth 1000000 in
/-- A door goes to HELD at the activation and back to OPEN as the release keys are held: DOOR is set and its record rewritten once. -/
theorem activation_held : gives .activation heldDoor (fun t =>
    (t.door 1).cond = .opened && (t.door 1).keys && t.xp.notice.getLsbD 2 && t.xp.counts.get 528 = 2 && t.xp.counts.get 529 = 0) = true := by
  decide +kernel

set_option maxRecDepth 1000000 in
/-- A door that an activation leaves UNKNOWN loses its filter candidates. -/
theorem activation_unknown : gives .activation lostDoor (fun t =>
    (t.door 1).cond = .unknown && (t.door 1).posCand.isNone && (t.door 1).exitCand.isNone) = true := by decide +kernel

/-- A first plan at the end of its validation; while a commit waits, a plan that keeps every record, one that drops and one that begins them, by each
command that activates; a call that the new plan drops; a door whose new hold limit has passed while the key set comes to be held, and one without its device. -/
theorem witness_ActivationIsTakenUp :
    (let s := holding .plan (bare none .checking)
     MemoryOk s ∧ PlanOk s ∧ OrdersOk s ∧ AlarmsOk s ∧ CallsOk s ∧ RoutesOk s ∧ s.za.seq = .calm ∧ s.rl.test = none ∧ s.ps.staged = .checking ∧
      s.staged.validate = none) ∧
    (∀ same, let s := holding .plan ((replanned same).onPs (fun ps => { ps with calmReports := 1, testReports := 1 }))
     MemoryOk s ∧ PlanOk s ∧ OrdersOk s ∧ AlarmsOk s ∧ CallsOk s ∧ RoutesOk s ∧ s.za.seq = .calm ∧ s.rl.test = none ∧ s.ps.staged = .waiting ∧
      0 < s.ps.calmReports ∧ 0 < s.ps.testReports) ∧
    (let s := holding .plan planned
     MemoryOk s ∧ PlanOk s ∧ OrdersOk s ∧ AlarmsOk s ∧ CallsOk s ∧ RoutesOk s ∧ s.za.seq = .calm ∧ s.rl.test = none ∧ s.ps.staged = .waiting) ∧
    (let s := holding .plan dropping
     MemoryOk s ∧ PlanOk s ∧ OrdersOk s ∧ AlarmsOk s ∧ CallsOk s ∧ RoutesOk s ∧ s.za.seq = .calm ∧ s.rl.test = none ∧ s.ps.staged = .waiting ∧
      callBody ((({ s.cu with zoneStranded := .fill false } : Cu).takeUp s.plan (s.bank .b) s.now).entry 0) ≠ callBody (s.cu.entry 0)) ∧
    (let x := (replanned true).door 1
     x.holdStart = some 90 ∧ ((replanned true).bank .b).holdLimit 1 = 10 ∧ (replanned true).now = 100 ∧ x.jam = .none ∧ x.cond = .opened ∧
      x.holdRuns ((replanned true).doorView 1) = true) ∧
    (∃ t, exec .activation heldDoor = .next t ∧ ((t.door 1).cond = .opened && (t.door 1).keys && t.xp.notice.getLsbD 2 &&
      t.xp.counts.get 528 = 2 && t.xp.counts.get 529 = 0) = true) ∧
    (∃ t, exec .activation lostDoor = .next t ∧ ((t.door 1).cond = .unknown && (t.door 1).posCand.isNone && (t.door 1).exitCand.isNone) = true) :=
  ⟨⟨bare_memory none .checking, ⟨fun _ h => (by cases h), fun h => (by cases h)⟩, held_plan rfl (fun h => by cases h), bare_checking_records.1,
      bare_checking_records.2.1, bare_checking_records.2.2, rfl, rfl, rfl, bare_validates⟩,
    fun same => ⟨replanned_memory same, replanned_plans same, held_plan rfl (fun h => by cases h), (replanned_records same).1,
      (replanned_records same).2.1, (replanned_records same).2.2, rfl, rfl, rfl, Nat.one_pos, Nat.one_pos⟩,
    ⟨replanned_memory false, planOk_of dropped_active dropped_staged, held_plan rfl (fun h => by cases h), planned_records.1, planned_records.2.1,
      planned_records.2.2, rfl, rfl, rfl⟩,
    ⟨replanned_memory false, planOk_of dropped_active dropped_staged, held_plan rfl (fun h => by cases h), (replanned_records false).1, dropping_calls,
      (replanned_records false).2.2, rfl, rfl, rfl, by decide +kernel⟩,
    by decide +kernel, of_gives activation_held, of_gives activation_unknown⟩

theorem witness_MemoryStaysCanonical : MemoryOk (site.withPending [.hostWrite 0x5000#15 .word 5#32])
    ∧ ∃ t, step (site.withPending [.hostWrite 0x5000#15 .word 5#32]) = .next t := ⟨site_memory, steps rfl (by decide +kernel)⟩

theorem witness_QueueHoldsTheCommittedSlots : SlotsOk (site.withPending [.commit 23])
    ∧ ∃ t, step (site.withPending [.commit 23]) = .next t := ⟨site_orders.1, steps rfl (by decide +kernel)⟩

theorem witness_HeldOrdersStayBacked : OrdersOk ((holding .plan (bare none .checking)).withPending [.uptimeTick])
    ∧ (∃ t, step ((holding .plan (bare none .checking)).withPending [.uptimeTick]) = .next t) ∧ HeldOk (holding .plan (bare none .checking)) :=
  have h : OrdersOk (holding .plan (bare none .checking)) := held_plan rfl (fun h => by cases h)
  ⟨h, steps rfl (by decide +kernel), h.2.1⟩

theorem witness_ResetRestsTheUnits : State.reset = State.reset ∧ ∃ t, exec .coldReset site = .next t := ⟨rfl, _, rfl⟩

theorem witness_ActivePlanIsNeverWritten : (site.mem.wf) ∧ (∃ t, exec (.hostWrite 0x5000#15 .word 5#32) site = .next t ∧
    decide (t.ps.active = some .a) = true) ∧ site.ps.active = some .a :=
  ⟨by decide +kernel, of_gives (by decide +kernel), rfl⟩

theorem witness_OnlyValidPlansBecomeActive : MemoryOk ((bare none .waiting).withPending [.activation])
    ∧ PlanOk ((bare none .waiting).withPending [.activation]) ∧ (∃ t, step ((bare none .waiting).withPending [.activation]) = .next t)
    ∧ PlanOk (bare (some .a) .edit) :=
  ⟨by unfold MemoryOk; decide +kernel, bare_waiting_planOk, steps rfl (by decide +kernel), bare_planOk⟩

theorem witness_AcknowledgeStartsTheSearch : ∀ seq : SiteSeq,
    let s := working .acknowledge (searched seq)
    Works s 0 .acknowledge ∧ s.za.seq = seq := fun _ => ⟨works_of rfl, rfl⟩

theorem witness_SilenceAndResoundMoveTheSounders : ∀ (seq : SiteSeq) (quiet silenced : Bool),
    let s := working (if quiet then .silence else .resound) ((searched seq).onZa (fun za => { za with silenced := silenced }))
    Works s 0 (if quiet then .silence else .resound) ∧ s.za.seq = seq ∧ s.za.silenced = silenced :=
  fun _ quiet _ => ⟨works_of (by cases quiet <;> rfl), rfl, rfl⟩

/-- The whole site and one area: in CALM, in an investigation of zone 1, and with every area in EVACUATE already. -/
theorem witness_EvacuateMovesTheNamedAreas : (searched .awaitAck).za.first.head? = some 1 ∧ isArea 0 = true ∧ (∀ area ∈ [none, some 0, some 1],
      (Order.evacuate area).argsOk alarmSite.plan = true) ∧
    (∀ area, (Order.evacuate area).argsOk alarmSite.plan = true →
      (AlarmsOk (working (.evacuate area) alarmSite) ∧ Works (working (.evacuate area) alarmSite) 0 (.evacuate area)) ∧
      (AlarmsOk (working (.evacuate area) (searched .awaitAck)) ∧ Works (working (.evacuate area) (searched .awaitAck)) 0 (.evacuate area)) ∧
      AlarmsOk (working (.evacuate area) evacuated) ∧ Works (working (.evacuate area) evacuated) 0 (.evacuate area)) :=
  ⟨rfl, rfl, by decide +kernel, fun _ h => ⟨⟨site_alarms, works_of h⟩, ⟨investigation_alarms, works_of h⟩, evacuated_alarms, works_of h⟩⟩

/-- The keys held; CALM without and with a latch; an investigation. -/
theorem witness_ResetSiteEndsTheAlarm :
    (let s := working .resetSite (alarmSite.onZa (fun za => { za with keysHeld := true }))
     AlarmsOk s ∧ Works s 0 .resetSite ∧ s.za.keysHeld = true) ∧
    (let s := working .resetSite alarmSite
     AlarmsOk s ∧ Works s 0 .resetSite ∧ s.za.keysHeld = false ∧ s.za.seq = .calm ∧
      ¬ ∃ i, 1 ≤ i ∧ i ≤ 384 ∧ (s.detector i).latched = true) ∧
    (let s := working .resetSite (alarmSite.setDetector 1 (fun x => { x with latched := true }))
     AlarmsOk s ∧ Works s 0 .resetSite ∧ s.za.seq = .calm ∧ (s.detector 1).latched = true) ∧
    (let s := working .resetSite (searched .awaitAck)
     AlarmsOk s ∧ Works s 0 .resetSite ∧ s.za.keysHeld = false ∧ s.za.seq ≠ .calm) := by
  refine ⟨⟨site_alarms, works_of rfl, rfl⟩, ⟨site_alarms, works_of rfl, rfl, rfl, ?_⟩, ⟨site_alarms, works_of rfl, rfl, by decide +kernel⟩,
    ⟨investigation_alarms, works_of rfl, rfl, fun h => by cases h⟩⟩
  rintro ⟨i, a, b, h⟩
  have k : ∀ i ∈ List.range' 1 384, ((working .resetSite alarmSite).detector i).latched = false := by decide +kernel
  rw [k i (by simp [List.mem_range'_1]; omega)] at h
  cases h

/-- Every condition of zone 2. -/
theorem witness_ZoneOrdersMoveTheZone : (∀ cond : ZoneCond,
    let s := alarmSite.setZone 2 (fun x => { x with cond := cond })
    Works (working (.isolateZone 2) s) 0 (.isolateZone 2) ∧ Works (working (.testZone 2) s) 0 (.testZone 2) ∧
      Works (working (.restoreZone 2) s) 0 (.restoreZone 2) ∧ (s.zone 2).cond = cond) ∧
    (∀ cond ∈ [ZoneCond.isolated, .test, .quiet], AlarmsOk (working (.restoreZone 2) (alarmSite.setZone 2 (fun x => { x with cond := cond })))) := by
  have h2 : alarmSite.plan.zonePlanned 2 = true := by decide +kernel
  refine ⟨fun cond => ⟨works_of h2, works_of h2, works_of h2, ?_⟩, fun cond h => ?_⟩
  · simp [State.zone, State.setZone, State.onZa, Table.holds]
  · rcases List.mem_cons.1 h with rfl | h
    · apply alarmsOk_of <;> decide +kernel
    rcases List.mem_cons.1 h with rfl | h
    · apply alarmsOk_of <;> decide +kernel
    cases List.mem_singleton.1 h
    apply alarmsOk_of <;> decide +kernel

/-- The site with area 1 closing and its doors decided under that. -/
def closing : State :=
  let s := site.setArea 1 (fun x => { x with regime := .closing, closingEnd := some 100 })
  (s.setDoor 1 (fun x => x.refresh (s.doorView 1))).setDoor 2 (fun x => x.refresh (s.doorView 2))

/-- Toward NIGHT and toward DAY, with the closing condition held (no doors) and not; the timer of the first and of the last area,
and of one with a late door. -/
theorem witness_RegimesMoveByOrderAndByTimer : (∀ a ∈ [0, 1], ∀ night ∈ [true, false],
      (Order.setRegime a night).argsOk alarmSite.plan = true ∧ (Order.setRegime a night).argsOk site.plan = true) ∧
    (∀ a night, (Order.setRegime a night).argsOk alarmSite.plan = true →
      Works (working (.setRegime a night) alarmSite) 0 (.setRegime a night)) ∧
    (∀ a night, (Order.setRegime a night).argsOk site.plan = true → Works (working (.setRegime a night) site) 0 (.setRegime a night)) ∧
    alarmSite.closingHolds 1 = true ∧ site.closingHolds 1 = false ∧ site.plan.isWithin 0 0 = true ∧
    (∀ a ∈ [0, 23],
      let s := alarmSite.setArea a (fun x => { x with regime := .closing, closingEnd := some 100 })
      isArea a = true ∧ (s.area a).regime = .closing ∧ (s.area a).closingEnd = some 100 ∧ 100 ≤ s.now) ∧
    ((closing.area 1).regime = .closing ∧ (closing.area 1).closingEnd = some 100 ∧ closing.za.seq = .calm ∧
      closing.plan.publicOrStaff 1 = true ∧ closing.plan.inArea 1 (closing.plan.doorZone 1) = true ∧ (closing.door 1).cond ≠ .secure) ∧
    (∀ d, isDoor d = true → closing.plan.doorPlanned d = true → (closing.door d).refresh (closing.doorView d) = closing.door d) ∧
    (∀ seq ∈ [SiteSeq.awaitAck, .searching], let s := searched seq
      s.za.seq = seq ∧ s.za.first.head? = some 1 ∧ isZone 1 = true ∧ s.plan.innermost 1 = some 1 ∧ (s.area 1).regime = .day ∧
        s.plan.areaPlanned 1 = true ∧ s.plan.isWithin 1 1 = true ∧ s.closingHolds 1 = true ∧
        (Order.setRegime 1 true).argsOk s.plan = true ∧
        ((s.setArea 1 (fun x => { x with regime := .closing, closingEnd := some 100 })).area 1).closingEnd = some 100) ∧
    ∀ seq, (Order.setRegime 1 true).argsOk (searched seq).plan = true →
      Works (working (.setRegime 1 true) (searched seq)) 0 (.setRegime 1 true) := by
  refine ⟨by decide +kernel, fun _ _ h => works_of h, fun _ _ h => works_of h, by decide +kernel, by decide +kernel, by decide +kernel, by decide +kernel,
    by decide +kernel, door_cases (by decide +kernel), by decide +kernel, fun _ h => works_of h⟩

theorem witness_SiteAndPhaseTimersExpire : (∀ seq : SiteSeq,
      (searched seq).za.first = [1] ∧ isZone 1 = true ∧ (searched seq).za.seq = seq ∧ (searched seq).za.siteEnd = some 100
        ∧ 100 ≤ (searched seq).now) ∧
    (∀ a ∈ [0, 23],
      let s := alarmSite.setArea a (fun x => { x with phase := .alert, phaseEnd := some 100 })
      isArea a = true ∧ (s.area a).phase = .alert ∧ (s.area a).phaseEnd = some 100 ∧ 100 ≤ s.now) :=
  ⟨fun _ => ⟨rfl, rfl, rfl, rfl, Nat.le_refl _⟩, by decide +kernel⟩

/-- Zone 1 in TEST, ISOLATED and in ALARM under investigation, its contact not in ALARM; zone 2, coincidence on, in ALARM with one of its detectors. -/
theorem zone_conditions :
    (∀ cond ∈ [ZoneCond.test, .isolated, .quiet], AlarmsOk (alarmSite.setZone 1 (fun x => { x with cond := cond }))) ∧
    (∀ cond, ((alarmSite.setZone 1 (fun x => { x with cond := cond })).zone 1).cond = cond) ∧
    AlarmsOk (searched .awaitAck) ∧ AlarmsOk (searched .searching) ∧
    (searched .awaitAck).plan.deviceKind 1 = some .detector ∧ (searched .awaitAck).plan.deviceKind 2 = some .breakglass ∧
    (searched .awaitAck).plan.deviceZone 1 = 1 ∧ (searched .awaitAck).plan.deviceZone 2 = 1 ∧
    ((searched .awaitAck).detector 2).state ≠ .alarm ∧ ((searched .awaitAck).zone 1).cause = .detector ∧
    (let s := ((site.setZone 2 (fun x => { x with cond := .alarm, cause := .detector })).setDetector 10 (fun x => { x with state := .alarm })).onZa
       (fun za => { za with seq := .awaitAck, first := [2], siteEnd := some 100 })
     AlarmsOk s ∧ s.plan.deviceKind 11 = some .detector ∧ s.plan.deviceZone 11 = 2 ∧ s.coincidence 2 = true ∧ (s.detector 11).state ≠ .alarm ∧
       (s.setDetector 11 (fun x => { x with state := .alarm })).countState .detector .alarm 2 = 2) := by
  refine ⟨fun cond h => ?_, fun cond => ?_, investigation_alarms, by apply alarmsOk_of <;> decide +kernel,
    by decide +kernel, by decide +kernel, by decide +kernel, by decide +kernel, by decide +kernel, by decide +kernel, ?_, by decide +kernel⟩
  · rcases List.mem_cons.1 h with rfl | h
    · apply alarmsOk_of <;> decide +kernel
    rcases List.mem_cons.1 h with rfl | h
    · apply alarmsOk_of <;> decide +kernel
    cases List.mem_singleton.1 h
    apply alarmsOk_of <;> decide +kernel
  · simp [State.zone, State.setZone, State.onZa, Table.holds]
  · apply alarmsOk_of <;> decide +kernel

/-- Readings of each kind; the counts of R5's table; a zone that is investigated. -/
theorem witness_AlarmsAreDecided :
    (∃ x : Detector, x.state = .alarm ∧ x.latched = true) ∧ (∃ x : Detector, x.state = .alarm ∧ x.latched = false ∧ 140 ≤ 140) ∧
    (∃ x : Detector, x.state ≠ .alarm ∧ 140 ≤ 255 ∧ 2 ≤ x.confirm + 1) ∧ (∃ x : Detector, x.state ≠ .alarm ∧ 140 ≤ 140 ∧ x.confirm + 1 < 4) ∧
    (∃ x : Detector, x.state ≠ .alarm ∧ 139 < 140 ∧ 60 ≤ 139) ∧ (∃ x : Detector, x.latched = false ∧ 0 < 140 ∧ 0 < 60) ∧
    (∀ s ∈ [alarmSite, alarmSite.setDetector 2 (fun x => { x with state := .alarm }), alarmSite.setDetector 1 (fun x => { x with state := .alarm }),
        alarmSite.setDetector 1 (fun x => { x with state := .warn })],
      AlarmsOk s ∧ isZone 1 = true ∧ (s.zone 1).cond = .quiet) ∧
    ((alarmSite.setDetector 2 (fun x => { x with state := .alarm })).countState .breakglass .alarm 1 = 1 ∧ alarmSite.coincidence 1 = false ∧
      (alarmSite.setDetector 1 (fun x => { x with state := .alarm })).countState .detector .alarm 1 = 1 ∧
      (alarmSite.setDetector 1 (fun x => { x with state := .warn })).countState .detector .warn 1 = 1 ∧
      alarmSite.countState .detector .warn 1 = 0) ∧
    (let s := (site.setDetector 10 (fun x => { x with state := .alarm })).setDetector 11 (fun x => { x with state := .alarm })
     isZone 2 = true ∧ (s.zone 2).cond = .quiet ∧ s.countState .breakglass .alarm 2 = 0 ∧ s.countState .detector .alarm 2 = 2
      ∧ s.coincidence 2 = true ∧ (site.setDetector 10 (fun x => { x with state := .alarm })).countState .detector .alarm 2 = 1) ∧
    alarmSite.investigates 1 .detector = true ∧
    (AlarmsOk (searched .awaitAck) ∧ isZone 2 = true ∧ ((searched .awaitAck).zone 2).cond = .quiet ∧ (searched .awaitAck).za.first.head? = some 1) := by
  refine ⟨⟨⟨.alarm, true, false, 0⟩, rfl, rfl⟩, ⟨⟨.alarm, false, false, 0⟩, rfl, rfl, Nat.le_refl _⟩,
    ⟨⟨.warn, false, false, 1⟩, fun h => (by cases h), by decide, by decide⟩, ⟨⟨.normal, false, false, 0⟩, fun h => (by cases h), by decide, by decide⟩,
    ⟨⟨.normal, false, false, 0⟩, fun h => (by cases h), by decide, by decide⟩, ⟨⟨.alarm, false, false, 0⟩, rfl, by decide, by decide⟩,
    ?_, by decide +kernel, by decide +kernel, by decide +kernel, investigation_alarms, rfl, by decide +kernel, rfl⟩
  intro s h
  rcases List.mem_cons.1 h with rfl | h
  · exact ⟨site_alarms, rfl, by decide +kernel⟩
  rcases List.mem_cons.1 h with rfl | h
  · exact ⟨site_alarms, rfl, by decide +kernel⟩
  rcases List.mem_cons.1 h with rfl | h
  · exact ⟨site_alarms, rfl, by decide +kernel⟩
  cases List.mem_singleton.1 h
  exact ⟨site_alarms, rfl, by decide +kernel⟩

theorem alarmSite_memory : MemoryOk alarmSite := by unfold MemoryOk; decide +kernel

theorem witness_AlarmRecordsStayConsistent : MemoryOk (alarmSite.withPending [.tAckExpiry]) ∧ AlarmsOk (alarmSite.withPending [.tAckExpiry])
    ∧ ∃ t, step (alarmSite.withPending [.tAckExpiry]) = .next t := ⟨alarmSite_memory, site_alarms, steps rfl (by decide +kernel)⟩

/-- A door at rest with one claim or mark each. -/
theorem witness_DoorTablesAreFollowed : (∃ x : Door, x.pull = true) ∧
    (let x := Door.zero
     x.pull = false ∧ x.keys = false ∧ x.evac = false ∧ x.lockdown = false ∧ x.hold = none ∧ x.isolated = false ∧ x.forced = false ∧
      x.failClose = false ∧ x.jam = .none ∧ x.held = false ∧ x.posOpen = false) ∧
    (let x := { Door.zero with lockdown := true, hold := some true }
     x.pull = false ∧ x.lockdown = true ∧ x.hold = some true) ∧
    (∃ x : Door, x.isolated = true) ∧ ∃ v : DoorView, v.reachable = false :=
  ⟨⟨{ Door.zero with pull := true }, rfl⟩, by decide, by decide, ⟨{ Door.zero with isolated := true }, rfl⟩, ⟨.publicDoor, false, .day, false, 0⟩, rfl⟩

/-- What a report with each input alone finds at door 1, whose check count is 2: the first report, and one that completes the count. -/
theorem door_reports : ∀ first ∈ [true, false],
    let s := site.setDoor 1 (fun x =>
      if first then x else { x with exitCand := some 1, posCand := some { count := 1, wasSecure := false } })
    (s.door 1).isolated = false ∧ (s.door 1).settle = false ∧ (s.door 1).posOpen = false ∧ (s.door 1).exitPressed = false ∧
      (s.door 1).pullOperated = false ∧ (s.door 1).posCand.map Candidate.count = (if first then none else some 1) ∧
      (s.door 1).exitCand = (if first then none else some 1) ∧ ((s.doorReport 1 8#16).door 1).cond = (s.door 1).cond := by decide +kernel

/-- Door 1 SECURE under lockdown, OPEN seen once. -/
def breached : State :=
  site.setDoor 1 (fun x =>
    { x with lockdown := true, lockEngaged := true, cmdLocked := true, cond := .secure, posCand := some { count := 1, wasSecure := true } })

theorem door_breached : ((breached.doorReport 1 5#16).door 1).pass = none ∧ ((breached.doorReport 1 5#16).door 1).command (breached.doorView 1) = true ∧
    ((breached.doorReport 1 5#16).door 1).cond = .forced ∧ (breached.doorView 1).reachable = true ∧ (breached.doorView 1).regime = .day := by
  decide +kernel

theorem door_marks : ∀ out ∈ [true, false], ∀ settles ∈ [true, false],
      ((site.setDoor 1 (fun x => { x with isolated := out, settle := settles })).door 1).isolated = out ∧
      ((site.setDoor 1 (fun x => { x with isolated := out, settle := settles })).door 1).settle = settles := by decide +kernel

/-- A check count of 2 with one report; a SECURE, LOCKED door that reports OPEN; a planned door whose device is OK and lost. -/
theorem witness_DoorFiltersAccept : (Door.zero.posOpen = false ∧ Door.zero.posCand = none ∧ (doorInputs 1).posOpen = true ∧ 1 < 2) ∧
    (let x := { Door.zero with lockdown := true, lockEngaged := true, cond := .secure }
     x.forced = false ∧ (x.takeReport 1 0 ⟨.staff, true, .day, false, 0⟩ (doorInputs 5)).forced = true) ∧
    site.plan.doorPlanned 1 = true ∧ site.plan.checkCount 1 = 2 ∧
    ((site.setDevice 4 (fun x => { x with cond := .missing })).device (site.plan.doorDevice 1)).cond ≠ .ok := by decide +kernel

/-- No PASS claim, one that ends earlier, one that ends later; holds of either mode and none; no pull, a pull OPERATED and one released. -/
theorem witness_ClaimOrdersMoveOneClaim : (Order.passDoor 1 60).argsOk site.plan = true ∧
    (∀ x : Door, (Order.passDoor 1 60).argsOk site.plan = true →
      let s := site.setDoor 1 (fun _ => x)
      (s.door 1 = x ∧ Works (working (.passDoor 1 60) s) 0 (.passDoor 1 60)) ∧ (∀ shut, Works (working (.holdDoor 1 shut) s) 0 (.holdDoor 1 shut)) ∧
        Works (working (.releaseHold 1) s) 0 (.releaseHold 1) ∧ Works (working (.clearPull 1) s) 0 (.clearPull 1)) := by
  have h1 : site.plan.doorPlanned 1 = true := by decide +kernel
  refine ⟨by decide +kernel, fun x h => ⟨⟨?_, works_of h⟩, fun _ => works_of h1, works_of h1, works_of h1⟩⟩
  simp [State.door, State.setDoor, State.onDu, Table.holds]

/-- Area 1 with its PUBLIC door with and without the claim. -/
theorem witness_LockdownOfAnArea : ∀ claimed : Bool,
    let s := site.setDoor 1 (fun x => { x with lockdown := claimed })
    Works (working (.lockdown 1) s) 0 (.lockdown 1) ∧ Works (working (.endLockdown 1) s) 0 (.endLockdown 1) ∧ (s.door 1).lockdown = claimed ∧
      site.plan.inArea 1 (site.plan.doorZone 1) = true := by
  have h1 : site.plan.areaPlanned 1 = true := by decide +kernel
  refine fun claimed => ⟨works_of h1, works_of h1, ?_, by decide +kernel⟩
  simp [State.door, State.setDoor, State.onDu, Table.holds]

/-- A door in and out of service, its device OK and not. -/
theorem witness_IsolateAndRestoreDoor : ∀ (out : Bool) (cond : DeviceCond),
    let s := (site.setDoor 1 (fun x => { x with isolated := out })).setDevice 4 (fun x => { x with cond := cond })
    Works (working (.isolateDoor 1) s) 0 (.isolateDoor 1) ∧ Works (working (.restoreDoor 1) s) 0 (.restoreDoor 1) ∧ (s.door 1).isolated = out ∧
      (s.device 4).cond = cond ∧ s.plan.doorDevice 1 = 4 ∧ ¬ s.plan.helpNames 4 := by
  have h1 : site.plan.doorPlanned 1 = true := by decide +kernel
  refine fun out cond => ⟨works_of h1, works_of h1, ?_, ?_, witness_handOvers.1.2.1, witness_handOvers.1.2.2.2⟩
  · simp [State.door, State.setDoor, State.setDevice, State.onLc, State.onDu, Table.holds]
  · simp [State.device, State.setDoor, State.setDevice, State.onLc, State.onDu, Table.holds]

/-- Each timer at its end, and requests for a planned door and for one that is not. -/
theorem witness_DoorTimersAndRequestsAct : site.plan.doorPlanned 1 = true ∧ site.plan.doorPlanned 2 = true ∧ site.plan.doorPlanned 64 = false ∧
    (let s := site.setDoor 1 (fun x => { x with pass := some 100 })
     (s.door 1).pass = some 100 ∧ 100 ≤ s.now) ∧
    (let s := site.setDoor 1 (fun x => { x with lockdown := true, posOpen := true, holdStart := some 90 })
     (s.door 1).holdStart = some 90 ∧ 90 + s.plan.holdLimit 1 ≤ s.now ∧ (s.door 1).holdRuns (s.doorView 1) = true) ∧
    (let s := site.setDoor 1 (fun x => { x with lockEngaged := true, lockStart := some (.shut, 97) })
     (s.door 1).lockStart = some (.shut, 97) ∧ 97 + 3 ≤ s.now ∧ (s.door 1).disagreement (s.doorView 1) = .shut) ∧
    (let s := site.setDoor 1 (fun x => { x with lockdown := true, lockStart := some (.free, 97) })
     (s.door 1).lockStart = some (.free, 97) ∧ (s.door 1).disagreement (s.doorView 1) = .free) ∧
    (let s := (site.setArea 1 (fun x => { x with regime := .night })).setDoor 2 (fun x => { x with posOpen := true, closeStart := some 95 })
     (s.door 2).closeStart = some 95 ∧ 95 + s.plan.closeTime 2 ≤ s.now ∧ (s.door 2).closeRuns (s.doorView 2) = true) ∧
    (∀ d ∈ [1, 64], (site.onMail (fun m => { m with rlOut := [(d, true)] })).mail.rlOut = (d, true) :: []) := by decide +kernel

/-- A plan, in CALM and in an investigation: the set becomes held and ceases. No plan: likewise. -/
theorem witness_ReleaseKeysAct : isKey 1 = true ∧ isKey 4 = true ∧
    (∀ s ∈ [site, site.onZa (fun za => { za with seq := .awaitAck, first := [1] }), State.reset], ∀ k ∈ [1, 2],
      let t := s.onDu (fun du => { du with keyInput := (Table.fill false).set k true, keyAccepted := (Table.fill false).set (3 - k) true })
      let u := s.onDu (fun du => { du with keyAccepted := ((Table.fill false).set 1 true).set 2 true, setHeld := true })
      t.du.keyInput.get k ≠ t.du.keyAccepted.get k ∧ t.du.setHeld = false ∧ u.du.keyInput.get k ≠ u.du.keyAccepted.get k ∧ u.du.setHeld = true ∧
        s.inKeySet 1 = true ∧ s.inKeySet 2 = true ∧ s.inKeySet 3 = false ∧ s.inKeySet 4 = false) ∧
    site.ps.active ≠ none ∧ State.reset.ps.active = none ∧ isZone 1 = true ∧ isArea 23 = true ∧ site.plan.areaPlanned 23 = false := by
  decide +kernel

/-- A part with a valid plan and no door, and the site, whose doors follow their records. -/
theorem witness_DoorsStayDecided : MemoryOk ((bare (some .a) .edit).withPending [.passExpiry 1]) ∧ PlanOk ((bare (some .a) .edit).withPending [.passExpiry 1])
    ∧ DoorsOk ((bare (some .a) .edit).withPending [.passExpiry 1]) ∧ (∃ t, step ((bare (some .a) .edit).withPending [.passExpiry 1]) = .next t)
    ∧ DoorsOk site :=
  ⟨by unfold MemoryOk; decide +kernel, bare_planOk, door_cases (by decide +kernel), steps rfl (by decide +kernel), door_cases (by decide +kernel)⟩

/-- 32 calls of sources 1 to 32, that of source 1 offered. -/
def fullList : List Call :=
  (List.range 32).map (fun e => { oneCall with entry := e, serial := e + 1, source := e + 1, state := if e = 0 then .offered else .waiting })

/-- The part with no plan, that list, and source 144 marked at level 2. -/
def full : State :=
  State.reset.onCu (fun cu =>
    { cu with calls := fullList, serial := 65535, sources := (Table.fill .zero).set 144 { Source.zero with pending := some (2, .press) } })

theorem full_calls : CallsOk full := by apply callsOk_of <;> decide +kernel

/-- Help point 1 ready to report, with a call of its own where `own` says so. -/
def helping (own : Bool) : State :=
  site.onCu (fun cu =>
    { cu with
      calls := [{ oneCall with source := if own then 1 else 81 }], serial := 9
      helps := (Table.fill .zero).set 1 { HelpPoint.zero with settle := false, indicator := some (if own then .steady else .off) } })

theorem helping_calls (own : Bool) : CallsOk (helping own) := by cases own <;> apply callsOk_of <;> decide +kernel

/-- The full list with help point 1 ready to report. -/
def fullHelping : State := full.onCu (fun cu => { cu with helps := (Table.fill .zero).set 1 { HelpPoint.zero with settle := false } })

theorem fullHelping_calls : CallsOk fullHelping := by apply callsOk_of <;> decide +kernel

/-- Reports of help point 1 with and without a call of its own, and beside a waiting mark; the last point settles. -/
theorem help_reports : (∀ s ∈ [helping true, helping false, fullHelping],
      (s.cu.helps.get 1).settle = false ∧ (s.cu.helps.get 1).button = false ∧ (s.cu.helps.get 1).cancel = false) ∧
    ((∃ c ∈ (helping true).cu.calls, c.source = 1) ∧ (∀ c ∈ (helping false).cu.calls, c.source ≠ 1) ∧
      (∃ c ∈ fullHelping.cu.calls, c.source = 1) ∧ (∀ n ∈ List.range 145, ((helping true).cu.sources.get n).pending = none) ∧
      (fullHelping.cu.sources.get 144).pending.isSome = true) ∧
    (full.cu.helps.get 80).settle = true ∧ (1#16).getLsbD 0 = true ∧ (2#16).getLsbD 1 = true ∧
    (3#16).getLsbD 0 = true ∧ (3#16).getLsbD 1 = true := by decide +kernel

/-- A repeat, a new call, and a press that finds the list full, the source marked or not; the reports above. -/
theorem witness_PressIsRepeatedAdmittedOrMarked : CallsOk calling ∧ CallsOk full ∧ (∃ c ∈ full.cu.calls, c.source = 1) ∧
    ((∀ c ∈ calling.cu.calls, c.source ≠ 1) ∧ (∀ c ∈ calling.cu.calls, c.source ≠ 144) ∧ calling.cu.calls.length < 32) ∧
    ((∀ c ∈ full.cu.calls, c.source ≠ 144) ∧ (∀ c ∈ full.cu.calls, c.source ≠ 143) ∧ full.cu.calls.length = 32) ∧
    (∀ own, CallsOk (helping own)) ∧ CallsOk fullHelping :=
  ⟨calling_calls, full_calls, ⟨_, .head _, rfl⟩, by decide +kernel, by decide +kernel, helping_calls, fullHelping_calls⟩

/-- A serial that no call carries, a call that is offered, and (closing) a full list with a marked source. -/
theorem witness_CallOrdersAttendAndClose :
    (∀ s ∈ [calling, full], ∀ serial ∈ [1, 9, 65535],
      (Order.attendCall serial).argsOk s.plan = true ∧ (Order.closeCall serial).argsOk s.plan = true) ∧
    (CallsOk (working (.attendCall 9) calling) ∧ Works (working (.attendCall 9) calling) 0 (.attendCall 9) ∧ oneCall.serial = 9 ∧ oneCall.state ≠ .attended) ∧
    (CallsOk (working (.attendCall 65535) full) ∧ Works (working (.attendCall 65535) full) 0 (.attendCall 65535) ∧
      ∀ c ∈ full.cu.calls, c.serial ≠ 65535) ∧
    (CallsOk (working (.closeCall 9) full) ∧ Works (working (.closeCall 9) full) 0 (.closeCall 9) ∧ (full.cu.sources.get 144).pending = some (2, .press) ∧
      ∀ j ∈ List.range 144, (full.cu.sources.get j).pending = none) ∧
    (CallsOk (working (.closeCall 9) calling) ∧ Works (working (.closeCall 9) calling) 0 (.closeCall 9) ∧
      ∀ j ∈ List.range 145, (calling.cu.sources.get j).pending = none) :=
  ⟨by decide +kernel, ⟨calling_calls, works_of rfl, rfl, fun h => (by cases h)⟩, ⟨full_calls, works_of rfl, by decide +kernel⟩,
    ⟨full_calls, works_of rfl, by decide +kernel, by decide +kernel⟩, calling_calls, works_of rfl, by decide +kernel⟩

/-- Levels 0 to 3 for the source of a call; a call whose age time has passed. -/
theorem witness_CallLevelsRise : (∀ level ∈ [0, 1, 2, 3], (Order.setCallLevel 81 level).argsOk calling.plan = true) ∧
    (∀ level, (Order.setCallLevel 81 level).argsOk calling.plan = true →
      CallsOk (working (.setCallLevel 81 level) calling) ∧ Works (working (.setCallLevel 81 level) calling) 0 (.setCallLevel 81 level)) ∧
    (calling.cu.sources.get 81).base = 1 ∧ CallsOk calling ∧ oneCall ∈ calling.cu.calls ∧ oneCall.state ≠ .attended ∧ oneCall.level < 3 ∧
      oneCall.lastRaise + calling.plan.ageTime ≤ calling.now :=
  ⟨by decide +kernel, fun _ h => ⟨calling_calls, works_of h⟩, by decide +kernel, calling_calls, .head _, fun h => (by cases h), by decide, by decide +kernel⟩

/-- The call of entry 0 is eligible in either mode, and no call beside it is of its level; one that is attended. -/
theorem witness_OfferIsTheBestEligibleCall : (calling.cu.calls.map Call.entry).Nodup ∧ calling.cu.calls = [] ++ oneCall :: [] ∧
    oneCall.state ≠ .attended ∧ calling.cu.attendLevel < oneCall.level ∧ (full.cu.calls.map Call.entry).Nodup ∧
    (let s := site.onCu (fun cu => { cu with calls := [{ oneCall with state := .attended }] })
     (s.cu.calls.map Call.entry).Nodup ∧ ∃ c ∈ s.cu.calls, c.state = .attended) := by decide +kernel

theorem witness_CallListStaysInBounds : MemoryOk (calling.withPending [.callAgeing 0]) ∧ CallsOk (calling.withPending [.callAgeing 0])
    ∧ (∃ t, step (calling.withPending [.callAgeing 0]) = .next t) ∧ CallsOk full :=
  ⟨site_memory, calling_calls, steps rfl (by decide +kernel), full_calls⟩

/-- Route 1 usable and barred; zone 1 on route 1, on route 2 and in REFUGE; the return hold at its end. -/
theorem witness_RouteOrdersAndTheReturnHold :
    (RoutesOk (working (.barRoute 1) site) ∧ Works (working (.barRoute 1) site) 0 (.barRoute 1) ∧ site.plan.zonePlanned 1 = true ∧
      (site.rl.zones.get 1).selection = .route 1) ∧
    (RoutesOk (working (.barRoute 1) barred) ∧ Works (working (.barRoute 1) barred) 0 (.barRoute 1)) ∧
    (RoutesOk (working (.unbarRoute 2) barred) ∧ Works (working (.unbarRoute 2) barred) 0 (.unbarRoute 2) ∧
      (barred.rl.zones.get 1).selection = .refuge ∧ 2 ∈ barred.plan.preferences 1) ∧
    (RoutesOk (working (.unbarRoute 1) (returning true)) ∧ Works (working (.unbarRoute 1) (returning true)) 0 (.unbarRoute 1) ∧
      ((returning true).rl.zones.get 1).selection = .route 2) ∧
    (RoutesOk (returning false) ∧ isZone 1 = true ∧ ((returning false).rl.zones.get 1).candidate = some 1 ∧
      ((returning false).rl.zones.get 1).holdEnd = some 100 ∧ 100 ≤ (returning false).now) := by
  have h1 : site.plan.routePlanned 1 = true := by decide +kernel
  have h2 : site.plan.routePlanned 2 = true := by decide +kernel
  exact ⟨⟨site_routes, works_of h1, by decide +kernel, by decide +kernel⟩, ⟨barred_routes, works_of h1⟩,
    ⟨barred_routes, works_of h2, by decide +kernel, by decide +kernel⟩, ⟨returning_routes.2, works_of h1, by decide +kernel⟩,
    returning_routes.1, rfl, by decide +kernel, by decide +kernel, by decide +kernel⟩

theorem testing_routes : RoutesOk testing := site_routes

theorem testing_orders : OrdersOk (holding .lights testing) := by
  apply ordersOk_of <;> first | decide +kernel | (intro h m; cases List.mem_singleton.1 m; unfold HeldOwner.running; decide +kernel)

/-- Each message at the head, with a held test and without one; a closing area of which the door has become SECURE, and the same with an investigation
of a zone in it; one of which the door is in another condition. -/
theorem witness_MessagesBetweenUnitsAreTaken :
    (∀ entered, RoutesOk ((holding .lights testing).onMail (fun m => { m with zaOut := [.alarm 1 entered] })) ∧
      OrdersOk ((holding .lights testing).onMail (fun m => { m with zaOut := [.alarm 1 entered] })) ∧
      RoutesOk (site.onMail (fun m => { m with zaOut := [.alarm 120 entered] })) ∧ OrdersOk (site.onMail (fun m => { m with zaOut := [.alarm 120 entered] }))) ∧
    (∀ phase, RoutesOk ((holding .lights testing).onMail (fun m => { m with zaOut := [.phase 1 phase] })) ∧
      OrdersOk ((holding .lights testing).onMail (fun m => { m with zaOut := [.phase 1 phase] }))) ∧
    (holding .lights testing).rl.test = some oneTest ∧ isZone 1 = true ∧ isZone 120 = true ∧ isDoor 1 = true ∧ isDoor 64 = true ∧
    (∀ c, RoutesOk ((site.setArea 1 (fun x => { x with regime := .closing })).onMail (fun m => { m with duOut := [(1, c)] }))) ∧
    site.plan.publicOrStaff 1 = true ∧ site.plan.publicOrStaff 2 = false ∧ site.plan.areaPlanned 1 = true ∧
    ((site.setArea 1 (fun x => { x with regime := .closing })).area 1).regime = .closing ∧
    (site.onZa (fun za => { za with doorCond := (Table.fill .none).set 1 .secure })).closingHolds 1 = true ∧
    ((∀ c, RoutesOk (closingSearch c) ∧ (closingSearch c).za.seq = .awaitAck ∧ (closingSearch c).za.first.head? = some 1 ∧
        (closingSearch c).mail.duOut = [(1, c)]) ∧
      ((closingSearch .secure).area 1).regime = .closing ∧ site.plan.innermost 1 = some 1 ∧ site.plan.inArea 1 (site.plan.doorZone 1) = true ∧
      (∃ t, exec .doorConditionMessage (closingSearch .secure) = .next t ∧
        (t.closingHolds 1 && (t.area 1).regime = .night && t.za.seq = .general && (t.zone 1).cause = .escalated
          && t.mail.zaOut = [.phase 1 .evacuate, .phase 2 .evacuate, .phase 3 .evacuate]) = true) ∧
      ∃ t, exec .doorConditionMessage (closingSearch .free) = .next t ∧ (!t.closingHolds 1 && (t.area 1).closingEnd = some 200) = true) :=
  ⟨fun _ => ⟨testing_routes, testing_orders, site_routes, site_orders⟩, fun _ => ⟨testing_routes, testing_orders⟩, rfl, rfl, rfl, rfl, rfl,
    fun _ => site_routes, by decide +kernel, by decide +kernel, by decide +kernel, by decide +kernel, by decide +kernel,
    fun _ => ⟨site_routes, rfl, rfl, rfl⟩, by decide +kernel, by decide +kernel, by decide +kernel,
    of_gives test_doorConditionMessage_closing, of_gives (by decide +kernel)⟩

/-- Another test held; a sequence that is not CALM; both lamps of zone 1; one of them, whose device no other circuit has; a function test. -/
theorem witness_TestLightsChecksThenStarts : (∀ duration ∈ [true, false], ∀ set ∈ [1, 3], ∀ hours ∈ [1, 3],
      (Order.testLights duration (wordOf set) hours).argsOk site.plan = true) ∧
    (∀ duration set hours, (Order.testLights duration set hours).argsOk site.plan = true → ∀ (f : Rl → Rl) (g : Za → Za),
      Works (working (.testLights duration set hours) ((site.onRl f).onZa g)) 0 (.testLights duration set hours)) ∧
    (testing.rl.test ≠ none ∧ site.rl.test = none ∧ (site.rl.circuits.get 1).state = .normal ∧ (site.rl.circuits.get 2).state = .normal ∧
    site.za.seq = .calm ∧ site.plan.servedZones 1 = [1] ∧ site.plan.servedZones 2 = [1] ∧ site.plan.lampDevice 1 = 8) ∧
    ∀ k, isCircuit k = true → k ≠ 1 → site.plan.lampPlanned k = true → site.plan.lampDevice k ≠ site.plan.lampDevice 1 :=
  ⟨by decide +kernel, fun _ _ _ h _ _ => works_of h, by decide +kernel, circuit_cases (by decide +kernel)⟩

theorem site_lights : LightsOk site := by
  refine ⟨fun h => (by cases h), fun q e => (by cases e), fun c h e => ?_⟩
  exact absurd e ((circuit_cases (by decide +kernel : ∀ c ∈ List.range' 1 32, (site.rl.circuits.get c).state ≠ .durationTest)) c h)

theorem witness_TestsEndByOrderOrByTime :
    (OrdersOk (holding .lights (working .stopTest testing)) ∧ LightsOk (holding .lights (working .stopTest testing)) ∧
      Works (holding .lights (working .stopTest testing)) 0 .stopTest ∧ testing.rl.test = some oneTest) ∧
    (OrdersOk (working .stopTest site) ∧ LightsOk (working .stopTest site) ∧ Works (working .stopTest site) 0 .stopTest ∧ site.rl.test = none) ∧
    (OrdersOk (holding .lights testing) ∧ LightsOk (holding .lights testing) ∧ oneTest.ending ≤ testing.now) := by
  refine ⟨⟨?_, testing_lights, ⟨rfl, by decide +kernel, ⟨7, rfl⟩, rfl⟩, rfl⟩, ⟨working_orders rfl, site_lights, works_of rfl, rfl⟩, testing_orders,
    testing_lights, by decide +kernel⟩
  apply ordersOk_of <;> first | decide +kernel | (intro h m; cases List.mem_singleton.1 m; unfold HeldOwner.running; decide +kernel)

/-- A lockout at its end; a battery period of 60 s and one of 61 s, and mains ABSENT outside a test; a test of one circuit and of two, reports that fail
and pass, and a circuit of it lost. -/
theorem witness_LampReportsAndRechargeAct : (isCircuit 1 = true ∧ isCircuit 32 = true ∧
    (let s := site.onRl (fun rl => { rl with circuits := rl.circuits.set 1 { Circuit.zero with state := .recharge, recharge := some 100 } })
     (s.rl.circuits.get 1).recharge = some 100 ∧ 100 ≤ s.now ∧ (s.rl.circuits.get 1).state = .recharge ∧ s.plan.lampPlanned 1 = true ∧
      s.lampReachable 1 = true ∧ s.rl.inTest 1 = false) ∧
    (∀ b ∈ [39, 40],
      let s := site.onRl (fun rl => { rl with circuits := rl.circuits.set 1 { Circuit.zero with mainsAbsent := true, period := some b } })
      s.rl.inTest 1 = false ∧ (1#16).getLsbD 0 = true ∧ (s.rl.circuits.get 1).period = some b) ∧
    (site.rl.inTest 1 = false ∧ (0#16).getLsbD 0 = false ∧ (site.rl.circuits.get 1).mainsAbsent = false) ∧
    (testing.rl.test = some oneTest ∧ 1 ∈ oneTest.circuits ∧ ∀ b ∈ oneTest.circuits, b = 1) ∧
    (∃ b ∈ [1, 2], b ≠ 1) ∧ reserveOf 0x0901#16 < 10 ∧ (0x6403#16).extractLsb' 1 2 = 1#2 ∧ (0x6405#16).extractLsb' 1 2 = 2#2 ∧
    10 ≤ reserveOf 0x0A01#16 ∧ (0x0A01#16).extractLsb' 1 2 = 0#2) ∧
    OrdersOk (holding .lights testing) ∧ { slot := 1, owner := .lights } ∈ (holding .lights testing).ou.held ∧ testing.plan.lampPlanned 1 = true ∧
    ((testing.setDevice 8 (fun x => { x with cond := .missing })).device (testing.plan.lampDevice 1)).cond ≠ .ok :=
  ⟨by decide +kernel, testing_orders, .head _, by decide +kernel, by decide +kernel⟩

theorem witness_RouteRecordsStayDecided : MemoryOk (site.withPending [.returnHoldExpiry 1]) ∧ RoutesOk (site.withPending [.returnHoldExpiry 1])
    ∧ ∃ t, step (site.withPending [.returnHoldExpiry 1]) = .next t := ⟨site_memory, site_routes, steps rfl (by decide +kernel)⟩

theorem witness_NoZoneLosesEveryLampToATest : MemoryOk ((holding .lights testing).withPending [.testEndTime])
    ∧ LightsOk ((holding .lights testing).withPending [.testEndTime])
    ∧ (∃ t, step ((holding .lights testing).withPending [.testEndTime]) = .next t)
    ∧ isZone 1 = true ∧ testing.plan.lampPlanned 1 = true ∧ 1 ∈ testing.plan.servedZones 1 :=
  ⟨site_memory, testing_lights, steps rfl (by decide +kernel), rfl, by decide +kernel, by decide +kernel⟩

/-- Loop 0 in every state; a device of it MISSING; a START LOOP held for it. -/
theorem witness_StartAndStopLoop :
    (∀ state : LoopState, OrdersOk (working (.startLoop 0) (site.setLoop 0 (fun x => { x with state := state }))) ∧
      OrdersOk (working (.stopLoop 0) (site.setLoop 0 (fun x => { x with state := state }))) ∧
      Works (working (.startLoop 0) (site.setLoop 0 (fun x => { x with state := state }))) 0 (.startLoop 0) ∧
      Works (working (.stopLoop 0) (site.setLoop 0 (fun x => { x with state := state }))) 0 (.stopLoop 0)) ∧
    (let s := working (.stopLoop 0) (site.setDevice 1 (fun x => { x with cond := .missing, recovery := 1 }))
     OrdersOk s ∧ Works s 0 (.stopLoop 0) ∧ (s.device 1).cond = .missing ∧ (s.device 1).recovery = 1) ∧
    (let s := holding (.loop 0) (working (.stopLoop 0) (site.setLoop 0 (fun x => { x with state := .rollcall })))
     OrdersOk s ∧ Works s 0 (.stopLoop 0) ∧ { slot := 1, owner := .loop 0 } ∈ s.ou.held) ∧
    site.plan.devicePlanned 1 = true ∧ site.plan.devicePlanned 96 = false := by
  have h0 : site.plan.loopPlanned 0 = true := by decide +kernel
  refine ⟨fun state => ⟨working_orders rfl, working_orders rfl, works_of h0, works_of rfl⟩,
    ⟨working_orders rfl, works_of rfl, by decide +kernel, by decide +kernel⟩, ⟨?_, ⟨rfl, by decide +kernel, ⟨7, rfl⟩, rfl⟩, .head _⟩,
    by decide +kernel, by decide +kernel⟩
  apply ordersOk_of <;> first | decide +kernel | (intro h m; cases List.mem_singleton.1 m; unfold HeldOwner.running; decide +kernel)

/-- A detector, a contact, a sounder and a door device, in and out of isolation. -/
theorem witness_IsolateAndRestoreDevice : (∀ a ∈ [1, 2, 3, 4], (Order.isolateDevice 0 a).argsOk site.plan = true ∧
      (Order.restoreDevice 0 a).argsOk site.plan = true) ∧
    (∀ a (cond : DeviceCond), (Order.isolateDevice 0 a).argsOk site.plan = true →
      Works (working (.isolateDevice 0 a) (site.setDevice a (fun x => { x with cond := cond }))) 0 (.isolateDevice 0 a) ∧
        Works (working (.restoreDevice 0 a) (site.setDevice a (fun x => { x with cond := cond }))) 0 (.restoreDevice 0 a)) ∧
    [1, 2, 3, 4].map site.plan.deviceKind = [some .detector, some .breakglass, some .sounder, some .door] :=
  ⟨by decide +kernel, fun _ _ h => ⟨works_of h, works_of h⟩, by decide +kernel⟩

/-- A running loop between sweeps, in ROLLCALL and in RING; the broadcast of the last loop due. -/
theorem witness_CallOutAndReleaseBroadcast : isLoop 0 = true ∧ isLoop 3 = true ∧ (site.loop 0).state = .ring ∧ (site.loop 0).sweep = none ∧
    (let s := site.setLoop 3 (fun x => { x with state := .rollcall, broadcastAt := some 100 })
     (s.loop 3).state = .rollcall ∧ (s.loop 3).sweep = none ∧ (s.loop 3).broadcastAt = some 100 ∧ 100 ≤ s.now) := by decide +kernel

/-- The devices of site's loop 0 that a door, a help point and a circuit own. -/
theorem answer_owners : site.plan.deviceKind 4 = some .door ∧ site.plan.doorOfDevice 4 = some 1 ∧ site.plan.deviceKind 6 = some .help ∧
    site.plan.helpOfDevice 6 = some 1 ∧ site.plan.deviceKind 8 = some .lamp ∧ site.plan.lampOfDevice 8 = some 1 ∧
    (∀ i ∈ [4, 6, 8], (site.device i).cond = .ok) := by decide +kernel

/-- A poll of a planned device and of an address without one, in loop 0's sweep; an open segment with room for one answer. -/
theorem witness_AnswersAreTaken :
    (∃ w q, isLoop 0 = true ∧ isAddress 1 = true ∧ (sweeping.loop 0).sweep = some w ∧ w.polls.find? (fun p => p.addr = 1) = some q ∧ q.addr = 1 ∧
      q.heardA = false ∧ q.heardB = false ∧ sweeping.plan.deviceKind 1 = some .detector ∧ w.census = false ∧ w.openUsed < 12 ∧
      isAddress 96 = true ∧ (∀ p ∈ w.polls, p.addr ≠ 96) ∧ sweeping.plan.deviceKind 96 = none) ∧
    (∃ (w : Sweep) (q : Poll), w.polls.find? (fun p => p.addr = 96) = some q ∧ q.heardA = false ∧ q.heardB = false ∧ w.census = true ∧
      ((sweeping.setLoop 0 (fun x => { x with state := .rollcall, sweep := some w })).loop 0).sweep = some w) ∧
    (∃ w : Sweep, w.census = false ∧ w.openUsed < 12 ∧ (∀ p ∈ w.polls, p.addr ≠ 1) ∧
      ((sweeping.setLoop 0 (fun x => { x with sweep := some w })).loop 0).sweep = some w) :=
  ⟨⟨_, _, rfl, rfl, rfl, rfl, by decide +kernel⟩,
    ⟨{ census := true, polls := [{ addr := 96, sent := none, heardA := false, heardB := false, taken := false }], openUsed := 0 }, _, rfl,
      by decide +kernel⟩,
    ⟨{ census := false, polls := [], openUsed := 11 }, by decide +kernel⟩⟩

theorem cut_orders (census : Bool) : OrdersOk (cut census) := by
  cases census <;> apply ordersOk_of <;> first | decide +kernel | exact fun h m => by cases m

theorem counting_orders (attempt : Nat) (cond : DeviceCond) : OrdersOk (counting attempt cond) := by
  have e : (counting attempt cond).ou = (counting 1 .ok).ou := rfl
  have r : ∀ n, (counting attempt cond).slot n = (counting 1 .ok).slot n := fun _ => rfl
  apply ordersOk_of
  · rw [e]; decide +kernel
  · rw [e]; simp only [r]; decide +kernel
  · rw [e]; simp only [r]; decide +kernel
  · rw [e]; simp only [r]; decide +kernel
  · rw [e]; decide +kernel
  · intro h m
    cases List.mem_singleton.1 m
    exact ⟨rfl, rfl⟩

/-- A census sweep with an attempt left and the last one, a device of it in each condition, which end in ROLLCALL and in FAILED. -/
theorem sweepEnd_counts : (∀ attempt cond, OrdersOk (counting attempt cond) ∧ ((counting attempt cond).loop 0).state = .rollcall ∧
      ((counting attempt cond).loop 0).attempt = attempt ∧ ((counting attempt cond).device 2).cond = cond ∧ ((counting attempt cond).device 2).miss = 1 ∧
      ((counting attempt cond).loop 0).rollHeard = true ∧
      ((counting attempt cond).loop 0).sweep = some { census := true, openUsed := 0, polls := [⟨2, none, false, false, false⟩] }) ∧
    site.plan.devicePlanned 2 = true ∧ site.plan.missLimit 0 = 2 ∧
    (∃ t, exec (.sweepEnd 0) (counting 1 .waiting) = .next t ∧ ((t.loop 0).state = .rollcall && (t.device 2).miss = 1) = true) ∧
    (∃ t, exec (.sweepEnd 0) (counting 1 .ok) = .next t ∧ ((t.loop 0).state = .failed && (t.device 2).miss = 2) = true) ∧
    (∃ t, exec (.sweepEnd 0) (counting 2 .waiting) = .next t ∧ ((t.loop 0).state = .failed && (t.device 2).miss = 2) = true) :=
  ⟨fun attempt cond => ⟨counting_orders attempt cond, rfl, rfl, rfl, rfl, rfl, rfl⟩, by decide +kernel, by decide +kernel, of_gives (by decide +kernel),
    of_gives (by decide +kernel), of_gives (by decide +kernel)⟩

/-- A regular sweep of a loop in RING, and one with which the loop fails; a census sweep with an attempt left, and the last one, with its START LOOP held;
sweeps of either kind that find a break. -/
theorem witness_SweepEndFinishesTheSweep :
    (OrdersOk sweeping ∧ isLoop 0 = true ∧ (∃ w, (sweeping.loop 0).sweep = some w ∧ w.census = false) ∧ (sweeping.loop 0).state = .ring ∧
      ∃ t, exec (.sweepEnd 0) (sweeping.setLoop 0 (fun x => { x with worse := { count := 1, bound := .dead } })) = .next t ∧
        ((t.loop 0).state = .failed && (t.device 3).cond = .missing) = true) ∧
    (∀ attempt ∈ [1, 2],
      let s := holding (.loop 0) (site.setLoop 0 (fun x =>
        { x with state := .rollcall, attempt := attempt, sweep := some { census := true, polls := [], openUsed := 0 } }))
      OrdersOk s ∧ (s.loop 0).state = .rollcall ∧ (s.loop 0).sweep = some { census := true, polls := [], openUsed := 0 } ∧
        (s.loop 0).attempt = attempt ∧ { slot := 1, owner := .loop 0 } ∈ s.ou.held) ∧
    (site.plan.rollCallAttempts 0 = 2 ∧ (∀ a ∈ [1, 96], isAddress a = true)) ∧
    ∀ census ∈ [true, false], OrdersOk (cut census) ∧ ((cut census).loop 0).endADown = false ∧ ((cut census).loop 0).endBDown = false ∧
      ((cut census).loop 0).sweep.map Sweep.census = some census ∧
      ((cut census).loop 0).sweep.bind (fun w => classify ((cut census).restricted 0 w)) = some .split ∧
      ∃ t, exec (.sweepEnd 0) (cut census) = .next t ∧ ((t.loop 0).state = .split && (t.loop 0).breakA = 2 && (t.loop 0).breakB = 3) = true := by
  refine ⟨⟨?_, rfl, ⟨_, rfl, rfl⟩, by decide +kernel, of_gives test_sweepEnd_failed⟩, fun attempt m => ?_, by decide +kernel,
    fun census h => ⟨cut_orders census, rfl, rfl, rfl, by cases census <;> decide +kernel, of_gives (test_sweepEnd_break census h)⟩⟩
  · apply ordersOk_of <;> first | decide +kernel | exact fun h m => by cases m
  · rcases List.mem_cons.1 m with rfl | m
    · refine ⟨?_, by decide +kernel, by decide +kernel, by decide +kernel, .head _⟩
      apply ordersOk_of <;> first | decide +kernel | (intro h m; cases List.mem_singleton.1 m; unfold HeldOwner.running; decide +kernel)
    · cases List.mem_singleton.1 m
      refine ⟨?_, by decide +kernel, by decide +kernel, by decide +kernel, .head _⟩
      apply ordersOk_of <;> first | decide +kernel | (intro h m; cases List.mem_singleton.1 m; unfold HeldOwner.running; decide +kernel)

/-- The five classes, with a lone poll set aside: what each sweep is classified. A loop in each state with a classification, runs clear. -/
theorem witness_SweepsAreClassifiedAndCounted :
    (let poll := fun a b => ({ addr := 1, sent := none, heardA := a, heardB := b, taken := true } : Poll)
     classify [] = none ∧ classify [poll false false] = some .dead ∧ classify [poll true true, poll false false, poll true true] = some .healthy ∧
      classify [poll true true, poll false false, poll false false, poll true true] = some .severed ∧
      classify [poll true false, poll false true] = some .split) ∧
    ∀ here : Grade,
      let x := { Loop.zero with state := here.state }
      x.state.grade = some here ∧ x.worse = .clear ∧ x.better = .clear :=
  ⟨by decide, fun here => by cases here <;> decide⟩

/-- The order unit is consistent after an interface reset, whatever it was before. -/
theorem reset_orders (s : State) : OrdersOk s.ifaceReset := by
  have w : s.ifaceReset.ou.working.bind Working.slot = none := by
    show (s.ou.working.map (fun w => { w with slot := none })).bind Working.slot = none
    cases s.ou.working <;> rfl
  have e : ∀ n, s.ifaceReset.slot n = State.reset.slot n := fun _ => rfl
  have q : s.ifaceReset.ou.queue = [] := rfl
  have h : s.ifaceReset.ou.held = [] := rfl
  apply ordersOk_of
  · rw [q]; exact ⟨List.nodup_nil, fun n m => by cases m⟩
  · rw [w, q, h]; simp only [e]; decide
  · rw [w]; intro n m; cases m
  · rw [h]; intro x m; cases m
  · rw [h]; exact ⟨List.nodup_nil, List.nodup_nil⟩
  · rw [h]; intro x m; cases m

/-- An interface reset leaves the order being worked on, without its slot, and the plan. -/
theorem reset_working (s : State) : ∃ u, exec (.ifaceReset false) s = .next u ∧ OrdersOk u ∧
    u.ou.working = s.ou.working.map (fun w => { w with slot := none }) ∧ u.plan = s.plan ∧ u.ou.held = [] := by
  have kept := State.keeps_hostPresent s
  have ou : s.hostPresent.ou = s.ou := kept .ou (by simp)
  have ps : s.hostPresent.ps = s.ps := kept .ps (by simp)
  have mem : s.hostPresent.mem = s.mem := kept .mem (by simp)
  refine ⟨(publish s s.hostPresent).ifaceReset, rfl, reset_orders _, ?_, ?_, rfl⟩
  · show s.hostPresent.ou.working.map (fun w => { w with slot := none }) = _
    rw [ou]
  · have a : ∀ u : State, u.ifaceReset.plan = u.plan := fun _ => rfl
    have b : (publish s s.hostPresent).plan = s.hostPresent.plan := rfl
    rw [a, b]
    simp only [State.plan, State.bank, ps, mem]

/-- OU works on order `o`, which has lost its slot. -/
def slotless (o : Order) (s : State) : State := s.onOu (fun ou => { ou with working := some { slot := none, order := o, tag := 7 } })

theorem slotless_orders (o : Order) : OrdersOk (slotless o (holding .lights testing)) := by
  have q : (slotless o (holding .lights testing)).ou.queue = [] := rfl
  have l : (slotless o (holding .lights testing)).ou.held = [{ slot := 1, owner := .lights }] := rfl
  have w : (slotless o (holding .lights testing)).ou.working.bind Working.slot = none := rfl
  have r : ∀ n, (slotless o (holding .lights testing)).slot n = (holding .lights testing).slot n := fun _ => rfl
  apply ordersOk_of
  · rw [q]; decide
  · rw [q, l, w]; simp only [r]; decide +kernel
  · rw [w]; intro n m; cases m
  · rw [l]; simp only [r]; decide +kernel
  · rw [l]; decide
  · rw [l]
    intro h m
    cases List.mem_singleton.1 m
    exact rfl

/-- An order that completes at once, one that is held and a CANCEL of the slot that it had, as an interface reset leaves each of them; and beside an order
that has been held since. -/
theorem witness_OrdersActWithoutTheirSlot : (∀ o ∈ [Order.acknowledge, .testLights false 1#32 0, .cancel 0],
      (∃ u, exec (.ifaceReset false) (working o site) = .next u ∧ OrdersOk u ∧ u.ou.working = some { slot := none, order := o, tag := 7 } ∧
        o.argsOk u.plan = true ∧ u.ou.held = []) ∧
      OrdersOk (slotless o (holding .lights testing)) ∧ o.argsOk (slotless o (holding .lights testing)).plan = true ∧
        0 ∉ (slotless o (holding .lights testing)).ou.held.map HeldOrder.slot) ∧
    isSlot 0 = true ∧ isSlot 23 = true := by
  refine ⟨fun o h => ?_, rfl, rfl⟩
  have args := (by decide +kernel : ∀ o ∈ [Order.acknowledge, .testLights false 1#32 0, .cancel 0], o.argsOk site.plan = true) o h
  obtain ⟨u, answers, orders, working, plan, held⟩ := reset_working (Tests.working o site)
  exact ⟨⟨u, answers, orders, working, by rw [plan]; exact args, held⟩, slotless_orders o, args, (by decide : 0 ∉ [1])⟩

end Sys2Proof.Machine.Tests
end

section
/-!
PROOFS. The exchange port as the host meets it: what it reads of the done summary, the registers and all of exchange memory, and what the two resets
leave there (08; R156 to R158, R168, R170, R172, R173).
-/

namespace Sys2Proof.Machine

/-! ### The two resets -/

/-- The part as a cold reset leaves it; the commands waiting and the key pins stand outside it (log entry 27). -/
def State.coldReset (s : State) : State :=
  { State.reset with pending := s.pending, du := { Du.reset with keyInput := s.du.keyInput } }

theorem exec_coldReset (s : State) : exec .coldReset s = .next s.coldReset := rfl

@[simp] theorem State.coldReset_xp (s : State) : s.coldReset.xp = .reset := rfl
@[simp] theorem State.coldReset_ou (s : State) : s.coldReset.ou = .reset := rfl
@[simp] theorem State.coldReset_ps (s : State) : s.coldReset.ps = .reset := rfl
@[simp] theorem State.coldReset_lc (s : State) : s.coldReset.lc = .reset := rfl
@[simp] theorem State.coldReset_za (s : State) : s.coldReset.za = .reset := rfl
@[simp] theorem State.coldReset_doors (s : State) : s.coldReset.du.doors = .fill .zero := rfl
@[simp] theorem State.coldReset_cu (s : State) : s.coldReset.cu = .reset := rfl
@[simp] theorem State.coldReset_rl (s : State) : s.coldReset.rl = .reset := rfl
@[simp] theorem State.coldReset_mem (s : State) : s.coldReset.mem = [] := rfl
@[simp] theorem State.coldReset_plan (s : State) : s.coldReset.plan = { mem := [], base := 0 } := rfl

theorem exec_ifaceReset (line : Bool) (s : State) : exec (.ifaceReset line) s = .next (publish s s.hostPresent).ifaceReset := by
  cases line <;> rfl

/-- What both resets leave of the registers of the notice line and of the slots (R172, R173). -/
theorem exec_of_reset {c : Instr} (h : c = .coldReset ∨ ∃ line, c = .ifaceReset line) (s : State) :
    ∃ t, exec c s = .next t ∧ t.xp.mask = 0 ∧ t.xp.lineEnable = false ∧ t.ou.slots = .fill .zero := by
  obtain rfl | ⟨line, rfl⟩ := h
  · exact ⟨_, exec_coldReset s, rfl, rfl, rfl⟩
  · exact ⟨_, exec_ifaceReset line s, rfl, rfl, rfl⟩

/-! ### Slots -/

theorem State.slot_of_zeroed {s : State} (h : s.ou.slots = .fill .zero) {n : Nat} (hn : isSlot n = true) : s.slot n = .zero := by
  have inRange : Table.holds 0 24 n := ⟨n.zero_le, by simpa [isSlot] using hn⟩
  rw [State.slot, h, Table.get_fill _ inRange]

theorem State.slot_free_of_zeroed {s : State} (h : s.ou.slots = .fill .zero) {n : Nat} (hn : isSlot n = true) :
    (s.slot n).handover = .free := by
  rw [State.slot_of_zeroed h hn]; rfl

/-! ### The notice line and its mask (R170) -/

theorem bitVec_ne_zero_iff {w : Nat} (b : BitVec w) : b ≠ 0 ↔ ∃ i, i < w ∧ b.getLsbD i = true := by
  have zeroBit (i : Nat) : (0 : BitVec w).getLsbD i = false := BitVec.getLsbD_zero
  constructor
  · intro nonzero
    refine Classical.byContradiction fun noBit => nonzero (BitVec.eq_of_getLsbD_eq fun i inRange => ?_)
    rw [zeroBit]
    exact Bool.eq_false_iff.2 fun set => noBit ⟨i, inRange, set⟩
  · rintro ⟨i, -, set⟩ rfl
    rw [zeroBit] at set
    exact Bool.false_ne_true set

theorem State.noticeLine_iff (s : State) :
    s.noticeLine = true ↔ s.xp.lineEnable = true ∧ ∃ i, i < 8 ∧ s.xp.notice.getLsbD i = true ∧ s.xp.mask.getLsbD i = true := by
  have enabled := bitVec_ne_zero_iff (s.xp.notice &&& s.xp.mask)
  simp only [BitVec.getLsbD_and, Bool.and_eq_true] at enabled
  simp [State.noticeLine, ← enabled]

theorem State.noticeLine_of_disabled {s : State} (h : s.xp.lineEnable = false) : s.noticeLine = false := by
  simp [State.noticeLine, h]

/-- Above the banks an aligned word reads the register there (R156). -/
theorem State.hostRead_register (s : State) {o : BitVec 15} (aligned : o.toNat % 4 = 0) (above : 0x7800 ≤ o.toNat) :
    s.hostRead o .word = (s.register o.toNat).getD 0 := by
  have beyond : ¬ o.toNat < Config.bankBBase + Config.bankSize := Nat.not_lt.2 above
  simp [State.hostRead, aligned, beyond]

theorem State.hostRead_noticeMask (s : State) : s.hostRead 0x7FEC#15 .word = s.xp.mask.zeroExtend 32 := by
  rw [State.hostRead_register s (by decide) (by decide)]
  have here : (s.register (0x7FEC#15).toNat).getD 0 = wordOf s.xp.mask.toNat := rfl
  rw [here]
  exact BitVec.eq_of_toNat_eq (by simp)

theorem exec_noticeMaskWrite (value : Word) (s : State) :
    exec (.noticeMaskWrite value) s = done s (s.hostPresent.writeMask value) := rfl

/-- The enables written are the low byte of the word (R170). -/
theorem extractLsb'_zeroExtend_eq_and (value : Word) : (value.extractLsb' 0 8).zeroExtend 32 = value &&& 0xFF#32 := by
  have low := Nat.and_two_pow_sub_one_eq_mod value.toNat 8
  apply BitVec.eq_of_toNat_eq
  rw [BitVec.toNat_and, show (0xFF#32).toNat = 2 ^ 8 - 1 from rfl, low, BitVec.zeroExtend, BitVec.toNat_setWidth, BitVec.extractLsb'_toNat]
  simp only [Nat.shiftRight_zero]
  omega

/-- Settles O11. -/
theorem noticeLineFollowsItsRegisters : Obligations.NoticeLineFollowsItsRegisters := by
  refine ⟨State.noticeLine_iff, fun s value => ?_, State.hostRead_noticeMask, fun c s h => ?_⟩
  · refine ⟨_, exec_noticeMaskWrite value s, ?_⟩
    rw [State.hostRead_noticeMask]
    exact extractLsb'_zeroExtend_eq_and value
  · obtain ⟨t, answers, mask, line, -⟩ := exec_of_reset h s
    exact ⟨t, answers, mask, line, State.noticeLine_of_disabled line⟩

/-! ### The done summary (R168) -/

/-- A sum of flags at rising positions, as a binary number: it stays below the next position, and each bit is its flag. -/
theorem flagSum_bits (p : Nat → Bool) (k : Nat) :
    (List.range k).foldl (fun acc n => acc + flagAt (p n) n) 0 < 2 ^ k ∧
      ∀ n, ((List.range k).foldl (fun acc n => acc + flagAt (p n) n) 0).testBit n = (decide (n < k) && p n) := by
  induction k with
  | zero => simp
  | succ k ih =>
    obtain ⟨below, bits⟩ := ih
    rw [List.range_succ, List.foldl_append]
    generalize (List.range k).foldl (fun acc n => acc + flagAt (p n) n) 0 = acc at below bits
    rw [List.foldl_cons, List.foldl_nil]
    have wider : 2 ^ (k + 1) = 2 ^ k + 2 ^ k := by omega
    have topFirst (n : Nat) : (decide (n < k + 1) && p n) = (decide (k = n) && p k || decide (n < k) && p n) := by
      by_cases top : k = n
      · simp [top]
      · have same : n < k + 1 ↔ n < k := by omega
        simp only [same, top, decide_false, Bool.false_and, Bool.false_or]
    cases flag : p k with
    | false =>
      rw [flagAt, if_neg Bool.false_ne_true, Nat.add_zero]
      exact ⟨by omega, fun n => by rw [bits, topFirst, flag, Bool.and_false, Bool.false_or]⟩
    | true =>
      have asOr := Nat.two_pow_add_eq_or_of_lt below 1
      rw [Nat.mul_one] at asOr
      rw [flagAt, if_pos rfl, Nat.add_comm acc]
      exact ⟨by omega, fun n => by rw [asOr, Nat.testBit_or, Nat.testBit_two_pow, bits, topFirst, flag, Bool.and_true]⟩

theorem State.doneSummary_testBit (s : State) (n : Nat) :
    s.doneSummary.testBit n = (decide (n < 24) && decide ((s.slot n).handover = .done)) :=
  (flagSum_bits (fun n => (s.slot n).handover = .done) 24).2 n

theorem wordOfBytes_byte4 (n : Nat) :
    wordOfBytes (byteOf n) (byteOf (n / 256)) (byteOf (n / 65536)) (byteOf (n / 16777216)) = wordOf n := by
  apply BitVec.eq_of_toNat_eq
  simp only [wordOfBytes, BitVec.toNat_ofNat]
  omega

/-- The word at 0x0040 is the done summary (09). -/
theorem State.hostRead_doneSummary (s : State) : s.hostRead 0x0040#15 .word = wordOf s.doneSummary :=
  wordOfBytes_byte4 s.doneSummary

theorem State.hostRead_doneSummary_getLsbD (s : State) {n : Nat} (hn : isSlot n = true) :
    (s.hostRead 0x0040#15 .word).getLsbD n = true ↔ (s.slot n).handover = .done := by
  have inRange : n < 24 := by simpa [isSlot] using hn
  have inWord : n < 32 := by omega
  rw [State.hostRead_doneSummary, BitVec.getLsbD_ofNat, State.doneSummary_testBit]
  simp [inRange, inWord]

theorem State.doneSummary_of_free {s : State} (h : ∀ n, isSlot n = true → (s.slot n).handover = .free) : s.doneSummary = 0 := by
  refine Nat.eq_of_testBit_eq fun n => ?_
  rw [State.doneSummary_testBit, Nat.zero_testBit]
  by_cases inRange : n < 24
  · simp [h n (by simpa [isSlot] using inRange)]
  · simp [inRange]

theorem State.doneSummary_congr {s t : State} (h : t.ou = s.ou) : t.doneSummary = s.doneSummary := by
  refine Nat.eq_of_testBit_eq fun n => ?_
  have same : t.slot n = s.slot n := by rw [State.slot, State.slot, h]
  rw [State.doneSummary_testBit, State.doneSummary_testBit, same]

theorem State.refreshHelps_xp (s : State) : s.refreshHelps.xp = s.xp := State.keeps_refreshHelps s .xp (by simp)

/-- What a host write does to the presence monitor leaves the capture. -/
theorem State.hostPresent_capture (s : State) : s.hostPresent.xp.capture = s.xp.capture := by
  unfold State.hostPresent
  split
  · rfl
  · rfl
  · rw [State.attach, State.refreshHelps_xp]
    rfl

theorem exec_hostWrite_doneSummary (value : Word) (s : State) :
    exec (.hostWrite 0x0040#15 .word value) s = done s (s.hostPresent.refuse .protectedWord 0x0040#15 value) := rfl

/-- A command in which a write is refused leaves NOTICE.WRITE set (R158). -/
theorem noticed_publish_refuse (s u : State) (reason : RefusedReason) (offset : BitVec 15) (value : Word) :
    Noticed 7 (publish s (u.refuse reason offset value)) := by
  have set : (causeBit true 7).getLsbD 7 = true := by decide
  simp [Noticed, publish_notice, State.refuse, set]

theorem State.refuse_reason {s : State} (h : s.xp.capture.count = 0) (reason : RefusedReason) (offset : BitVec 15) (value : Word) :
    (s.refuse reason offset value).xp.capture.reason = some reason := by
  simp [State.refuse, Capture.add, h]

/-- Settles O12. -/
theorem doneSummaryFollowsTheSlots : Obligations.DoneSummaryFollowsTheSlots := by
  refine ⟨fun s n hn => s.hostRead_doneSummary_getLsbD hn, fun s value => ⟨rfl, _, exec_hostWrite_doneSummary value s, ?_, ?_, ?_⟩,
    fun c s h => ?_⟩
  · have slots : s.hostPresent.ou = s.ou := State.keeps_hostPresent s .ou (by simp)
    rw [State.hostRead_doneSummary, State.hostRead_doneSummary, State.doneSummary_congr (s := s)]
    exact slots
  · exact noticed_publish_refuse s _ _ _ _
  · intro empty
    rw [publish_xp_capture]
    exact State.refuse_reason (by rw [State.hostPresent_capture, empty]) _ _ _
  · obtain ⟨t, answers, -, -, slots⟩ := exec_of_reset h s
    have free : ∀ n, isSlot n = true → (t.slot n).handover = .free := fun n hn => State.slot_free_of_zeroed slots hn
    exact ⟨t, answers, by rw [State.hostRead_doneSummary, State.doneSummary_of_free free]; rfl, free⟩

end Sys2Proof.Machine
end

section
/-!
PROOFS. Exchange memory after a cold reset (R172): each record, the control block and the slots show nothing but zero bytes, but for the staged state.
-/

namespace Sys2Proof.Machine

/-! ### Lists of zero bytes -/

/-- Every byte of the list is 0. -/
def Blank (bs : List Byte) : Prop := ∀ b ∈ bs, b = 0

@[simp] theorem blank_append (xs ys : List Byte) : Blank (xs ++ ys) ↔ Blank xs ∧ Blank ys := by
  simp [Blank, or_imp, forall_and]

@[simp] theorem blank_cons (b : Byte) (bs : List Byte) : Blank (b :: bs) ↔ b = 0 ∧ Blank bs := by simp [Blank]

@[simp] theorem blank_nil : Blank [] := by simp [Blank]
@[simp] theorem blank_byte1 : Blank (byte1 0) := by simp [byte1]
@[simp] theorem blank_byte2 : Blank (byte2 0) := by simp [byte2]
@[simp] theorem blank_byte4 : Blank (byte4 0) := by simp [byte4]
@[simp] theorem blank_spare (n : Nat) : Blank (spare n) := by simp [Blank, spare]

theorem blank_map {α : Type} {f : α → Byte} {xs : List α} (h : ∀ a, f a = 0) : Blank (xs.map f) := by
  intro b mem
  obtain ⟨a, -, rfl⟩ := List.mem_map.1 mem
  exact h a

theorem Blank.getD {bs : List Byte} (h : Blank bs) (i : Nat) : bs.getD i 0 = 0 := by
  rw [List.getD_eq_getElem?_getD]
  cases at_i : bs[i]? with
  | none => rfl
  | some b => exact h b (List.mem_of_getElem? at_i)

/-- A table of default records reads the default at every number, whether or not a record carries it. -/
theorem Table.get_fill_default {α : Type} {lo n : Nat} [Inhabited α] (i : Nat) : (Table.fill default : Table α lo n).get i = default := by
  by_cases inRange : Table.holds lo n i
  · exact Table.get_fill _ inRange
  · exact Table.get_outside _ inRange

theorem byteOfWord_zero (i : Nat) : byteOfWord 0 i = 0 := by simp [byteOfWord]

/-! ### The empty plan -/

theorem PlanBank.byte_empty (base o : Nat) : PlanBank.byte { mem := [], base := base } o = 0 := rfl

theorem PlanBank.areaPlanned_empty (base a : Nat) : PlanBank.areaPlanned { mem := [], base := base } a = false := by
  simp [areaPlanned, areaFirst, areaWord0, word, half, byte_empty, bits]

theorem PlanBank.zonePlanned_empty (base z : Nat) : PlanBank.zonePlanned { mem := [], base := base } z = false := by
  simp [zonePlanned, byte_empty, bit]

theorem PlanBank.deviceKind_empty (base i : Nat) : PlanBank.deviceKind { mem := [], base := base } i = none := by
  simp [deviceKind, deviceCode, byte_empty, kindOfCode]

/-! ### What a cold reset leaves of each record -/

theorem State.coldReset_zone (s : State) {z : Nat} (h : Table.holds 1 120 z) : s.coldReset.zone z = .zero := Table.get_fill _ h
theorem State.coldReset_area (s : State) {a : Nat} (h : Table.holds 0 24 a) : s.coldReset.area a = .zero := Table.get_fill _ h
theorem State.coldReset_device (s : State) {i : Nat} (h : Table.holds 1 384 i) : s.coldReset.device i = .zero := Table.get_fill _ h
theorem State.coldReset_detector (s : State) {i : Nat} (h : Table.holds 1 384 i) : s.coldReset.detector i = .zero := Table.get_fill _ h
theorem State.coldReset_loop (s : State) {l : Nat} (h : Table.holds 0 4 l) : s.coldReset.loop l = .zero := Table.get_fill _ h
theorem State.coldReset_door (s : State) {d : Nat} (h : Table.holds 1 64 d) : s.coldReset.door d = .zero := Table.get_fill _ h

theorem State.coldReset_faultMark (s : State) (z : Nat) : s.coldReset.faultMark z = false := by
  simp [State.faultMark, PlanBank.zonePlanned_empty]

theorem State.coldReset_tally (s : State) (a : Nat) (f : Nat → Bool) : s.coldReset.tally a f = 0 := by
  simp [State.tally, PlanBank.areaPlanned_empty]

theorem State.coldReset_stateByte (s : State) (i : Nat) : s.coldReset.stateByte i = 0 := by
  simp [State.stateByte, PlanBank.deviceKind_empty]

theorem State.coldReset_zoneBody (s : State) {z : Nat} (h : Table.holds 1 120 z) : Blank (s.coldReset.zoneBody z) := by
  simp [State.zoneBody, s.coldReset_zone h, Zone.zero, ZoneCond.code, Cause.code, alarmCountByte, s.coldReset_faultMark, Rl.reset,
    Table.get_fill _ h, RouteZone.zero, Selection.code, flagAt]

theorem State.coldReset_areaBody (s : State) {a : Nat} (h : Table.holds 0 24 a) : Blank (s.coldReset.areaBody a) := by
  simp [State.areaBody, State.shownRegime, PlanBank.areaPlanned_empty, State.alarmTally, State.warnTally, State.faultTally,
    State.isolatedTally, s.coldReset_tally, s.coldReset_area h, Area.zero, Phase.code]

theorem State.coldReset_deviceBody (s : State) {i : Nat} (h : Table.holds 1 384 i) : Blank (s.coldReset.deviceBody i) := by
  simp [State.deviceBody, s.coldReset_device h, s.coldReset_detector h, s.coldReset_stateByte, Device.zero, Detector.zero,
    DeviceCond.code, flagAt]

theorem State.coldReset_doorBody (s : State) {d : Nat} (h : Table.holds 1 64 d) : Blank (s.coldReset.doorBody d) := by
  simp [State.doorBody, s.coldReset_door h, Door.zero, DoorCond.code, Door.claimsByte, Door.holdByte, flagAt]

theorem State.coldReset_callBody (s : State) (e : Nat) : Blank (callBody (s.coldReset.cu.entry e)) := by
  simp [Cu.entry, Cu.reset, callBody]

theorem State.coldReset_sourceBody (s : State) {n : Nat} (h : Table.holds 1 144 n) : Blank (s.coldReset.sourceBody n) := by
  simp [State.sourceBody, Cu.reset, Table.get_fill _ h, Source.zero]

theorem State.coldReset_routeBody (s : State) {r : Nat} (h : Table.holds 1 48 r) : Blank (s.coldReset.routeBody r) := by
  simp [State.routeBody, Rl.reset, Table.get_fill _ h, Route.zero, BlockCause.bytes, flagAt]

theorem State.coldReset_lampBody (s : State) {c : Nat} (h : Table.holds 1 32 c) : Blank (s.coldReset.lampBody c) := by
  simp [State.lampBody, Rl.reset, Table.get_fill _ h, Circuit.zero, CircuitState.code, TestResult.code]

theorem State.coldReset_loopBody (s : State) {l : Nat} (h : Table.holds 0 4 l) : Blank (s.coldReset.loopBody l) := by
  simp [State.loopBody, s.coldReset_loop h, Loop.zero, LoopState.code, flagAt]

theorem State.coldReset_firstBody (s : State) : Blank s.coldReset.firstBody := by
  simp only [State.firstBody, blank_append]
  exact ⟨⟨⟨blank_byte1, blank_spare 2⟩, blank_map fun _ => rfl⟩, blank_spare 4⟩

/-- The records in the order of their numbers (09, 'Control block'). -/
theorem State.coldReset_recordBody (s : State) (k : Nat) : Blank (s.coldReset.recordBody k) := by
  unfold State.recordBody
  repeat' split
  · exact s.coldReset_zoneBody ⟨by omega, by omega⟩
  · exact s.coldReset_areaBody ⟨by omega, by omega⟩
  · exact s.coldReset_deviceBody ⟨by omega, by omega⟩
  · exact s.coldReset_doorBody ⟨by omega, by omega⟩
  · exact s.coldReset_callBody _
  · exact s.coldReset_sourceBody ⟨by omega, by omega⟩
  · exact s.coldReset_routeBody ⟨by omega, by omega⟩
  · exact s.coldReset_lampBody ⟨by omega, by omega⟩
  · exact s.coldReset_loopBody ⟨by omega, by omega⟩
  · exact s.coldReset_firstBody

theorem State.coldReset_recordBytes (s : State) (k : Nat) : Blank (s.coldReset.recordBytes k) :=
  (blank_cons _ _).2 ⟨Table.get_fill_default k, s.coldReset_recordBody k⟩

/-! ### The control block and the slots -/

theorem State.coldReset_slot (s : State) {n : Nat} (hn : isSlot n = true) : s.coldReset.slot n = .zero := State.slot_of_zeroed rfl hn

theorem State.coldReset_doneSummary (s : State) : s.coldReset.doneSummary = 0 :=
  State.doneSummary_of_free fun _ hn => State.slot_free_of_zeroed rfl hn

theorem State.coldReset_siteSummary (s : State) : Blank s.coldReset.siteSummary := by
  simp [State.siteSummary, Za.reset, Xp.reset, SiteSeq.code, SiteSeq.subCode, Attach.code, remaining, flagAt]

theorem blank_emptyCapture : Blank Capture.empty.bytes := by simp [Capture.bytes, Capture.empty]

/-- Byte 2 of the plan status is the staged state, 1 for EDIT (R145). -/
theorem State.coldReset_planStatus_getD (s : State) (i : Nat) :
    (s.coldReset.xp.planCount :: s.coldReset.planStatus).getD i 0 = if i = 2 then 1 else 0 := by
  have bytes : s.coldReset.xp.planCount :: s.coldReset.planStatus = [0, 0, 1, 0, 0, 0] := by
    simp [State.planStatus, Xp.reset, Ps.reset, Ps.activeCode, StagedState.code, byte1, byte2]
  rw [bytes]
  match i with
  | 0 | 1 | 2 => rfl
  | i + 3 => exact Blank.getD (by simp : Blank [0, 0, 0]) i

/-- The control block: by its parts, in the order of their offsets (09). -/
theorem State.coldReset_controlByte (s : State) (o : Nat) : s.coldReset.controlByte o = if o = 0x12 then 1 else 0 := by
  by_cases staged : o = 0x12
  · subst staged
    exact s.coldReset_planStatus_getD 2
  rw [if_neg staged]
  unfold State.controlByte
  repeat' split
  · exact Blank.getD ((blank_cons _ _).2 ⟨rfl, s.coldReset_siteSummary⟩) _
  · rw [s.coldReset_planStatus_getD, if_neg (by omega)]
  · exact Blank.getD blank_byte4 _
  · exact Blank.getD ((blank_cons _ _).2 ⟨rfl, blank_emptyCapture⟩) _
  · rw [s.coldReset_doneSummary]
    exact Blank.getD blank_byte4 _
  · rfl
  · have word : s.coldReset.xp.summary.get ((o - 0x80) / 4) = 0 := Table.get_fill_default _
    rw [word, byteOfWord_zero]
  · rfl

theorem Slot.wordAt_zero (k : Nat) : Slot.zero.wordAt k = 0 := by
  unfold Slot.wordAt
  split
  · rfl
  · rfl
  · rfl
  · rfl
  · rfl
  · split
    · exact Table.get_fill_default _
    · exact Table.get_fill_default _

theorem State.coldReset_exchangeByte (s : State) {o : Nat} (h : o < 0x7800) :
    s.coldReset.exchangeByte o = if o = 0x12 then 1 else 0 := by
  by_cases control : o < Config.slotBase
  · rw [State.exchangeByte, if_pos control, State.coldReset_controlByte]
  have other : o ≠ 0x12 := by unfold Config.slotBase at control; omega
  rw [if_neg other, State.exchangeByte, if_neg control]
  split
  case isTrue slots =>
    have inRange : isSlot ((o - Config.slotBase) / 64) = true := by
      refine decide_eq_true ?_
      unfold Config.liveBase at slots
      unfold Config.slotBase
      omega
    rw [State.coldReset_slot s inRange, Slot.wordAt_zero, byteOfWord_zero]
  case isFalse =>
    split
    · exact Blank.getD (State.coldReset_recordBytes s _) _
    · rfl

/-- The registers after a cold reset (R171, R172). -/
theorem State.coldReset_register (s : State) (o : Nat) :
    s.coldReset.register o = if o = 0x7FE0 then some 0x54C20840#32
      else if o = 0x7FE4 ∨ o = 0x7FE8 ∨ o = 0x7FEC ∨ o = 0x7FF0 then some 0 else none := by
  by_cases assigned : o = 0x7FE0 ∨ o = 0x7FE4 ∨ o = 0x7FE8 ∨ o = 0x7FEC ∨ o = 0x7FF0
  · obtain rfl | rfl | rfl | rfl | rfl := assigned <;> rfl
  · simp only [not_or] at assigned
    obtain ⟨ident, control, notice, mask, presence⟩ := assigned
    simp only [State.register, Config.identOffset, Config.controlOffset, Config.noticeOffset, Config.noticeMaskOffset,
      Config.presenceOffset, ident, control, notice, mask, presence, or_self, if_false]

/-- Settles O3. -/
theorem coldResetZeroesTheExchange : Obligations.ColdResetZeroesTheExchange := fun s =>
  ⟨s.coldReset, exec_coldReset s, fun _ h => s.coldReset_exchangeByte h, s.coldReset_register,
    fun _ hn => State.slot_free_of_zeroed rfl hn, State.noticeLine_of_disabled rfl, rfl, rfl, rfl, rfl, rfl, rfl, rfl⟩

end Sys2Proof.Machine
end
